-- ==== Sys2Proof/Word.lean ====
section
/-! DEFINITION. Word.lean: the two word types of the machine. The CPU bus is one byte wide and its addresses have
16 bits (rules R11, R70, R87). Field extraction, byte order and sign extension stand in Decode.lean and under
Machine/, where they are used. -/

namespace Sys2Proof

/-- A bus byte, an 8-bit register (rule R11). -/
abbrev Byte := BitVec 8

/-- A CPU address, the program counter (rule R11). -/
abbrev Word := BitVec 16

end Sys2Proof
end

