-- ==== Sys2Proof/Config.lean ====
section
/-! DEFINITION. Config.lean: what the host fixes before a run (rules R13, R60, R461) and the values nobody fixes.
The parameters of rule R13 and the cartridge are DATA of these types: State carries one value of each, every step
hands them on unchanged, and a statement about all states is a statement about all settings. -/

namespace Sys2Proof

/-- `UNOFFICIAL_OPCODES` (rule R320): whether the 80 unofficial rows of the opcode table are mapped. -/
inductive UnofficialOpcodes where
  | none
  | nestest
  deriving DecidableEq, Repr

/-- `RESET_PC_MODE` (rule R532). -/
inductive ResetPcMode where
  | vector
  | fixed (a : Word)
  deriving DecidableEq, Repr

/-- `ODD_FRAME_SKIP` (rule R401). -/
inductive OddFrameSkip where
  | always
  | whenRendering
  deriving DecidableEq, Repr

/-- The cartridge's name-table mirroring (rule R94). -/
inductive Mirroring where
  | horizontal
  | vertical
  | fourScreen
  deriving DecidableEq, Repr

/-- The two accepted program-ROM lengths (rules R60, R461, R470). -/
inductive PrgSize where
  | k16
  | k32
  deriving DecidableEq, Repr

/-- `len(prg)` in bytes. -/
def PrgSize.bytes : PrgSize → Nat
  | .k16 => 16384
  | .k32 => 32768

/-- The power-on contents of the five RAM-like memories when they are drawn (rules R56-R59, decision D6). -/
structure RamImage where
  wram : List Host.Cell
  sram : List Host.Cell
  oam : List Host.Cell
  palette : List Host.Cell
  nametable : List Host.Cell
  deriving DecidableEq, Repr

/-- `RAM_POWER_ON` (rule R531): all zero, or any contents at all. -/
inductive RamPowerOn where
  | zero
  | draw (image : RamImage)
  deriving DecidableEq, Repr

/-- The parameters of rule R13 that a step reads. The others act only at power-on and stand in `HostInputs`. -/
structure Params where
  /-- `UNOFFICIAL_OPCODES`, rule R320 -/
  unofficial : UnofficialOpcodes
  /-- `INT_PUSH_B`, rule R493 -/
  intPushB : Bool
  /-- `OAM_DMA_STALL`, rule R77 -/
  oamDmaStall : Nat
  /-- `IO_READ_VALUE`, rule R75 -/
  ioReadValue : Byte
  /-- `CONTROLLER_READ_UPPER`, rule R76: its bits 7-1, the parameter's bit 0 being 0 -/
  controllerReadUpper : BitVec 7
  /-- `PPU_OPEN_BUS`, rules R357 and R367 -/
  ppuOpenBus : Byte
  /-- `ODD_FRAME_SKIP`, rule R401 -/
  oddFrameSkip : OddFrameSkip
  /-- `NMI_ON_CTRL_ENABLE`, rule R354 -/
  nmiOnCtrlEnable : Bool
  deriving DecidableEq, Repr

/-- The cartridge record the host hands over (rule R461), before the checks of rule R470. -/
structure CartridgeRecord where
  prg : List Byte
  chr : List Byte
  mirroring : Mirroring
  sramBanks : Nat
  mapper : Nat
  deriving DecidableEq, Repr

/-- Everything the host fixes before the run (rules R13 and R461), and what it will say during the run (rule R471).
That the host's answers are fixed lists is the model's (DESIGN CHOICE, safe: log entries 6 and 9). -/
structure HostInputs where
  record : CartridgeRecord
  params : Params
  resetPc : ResetPcMode
  ram : RamPowerOn
  /-- the bits the controller answers, first read first (rules R76, R471); after the last one a read answers
  `Config.controllerBit` -/
  controllerAnswers : List (BitVec 1)
  /-- `irq_line` (rules R13, R469), one level an interrupt check; after the last one the line is low, the default of
  rule R13, and the empty list is that default throughout -/
  irqLevels : List Bool
  deriving DecidableEq, Repr

/-- A colour triple (rule R435). -/
abbrev Rgb := Byte × Byte × Byte

/-- `SYSTEM_PALETTE(index, emphasis)`, which the spec leaves open (rule R435, decision D24). A free value
(DESIGN CHOICE, safe: log entry 5). -/
opaque Config.systemPalette : BitVec 6 → BitVec 3 → Rgb

/-- What `frame[y][x]` holds before the compositor has written it (rule R61). A free value (DESIGN CHOICE, safe:
log entry 5). -/
opaque Config.framePowerOn : Nat → Nat → Rgb

/-- The bit the controller answers to its n-th read (rules R76 and R471) when the host has put no answer of its own
into the state. A free value (DESIGN CHOICE, safe: log entry 6). -/
opaque Config.controllerBit : Nat → BitVec 1

end Sys2Proof
end

