-- ==== Sys2Proof/Syntax.lean ====
section
/-! DEFINITION. Syntax.lean: the instructions, one constructor for each of the 231 rows of spec/opcode_table.json
(rule R126), with the operand bytes the row's format has (rules R120-R122). A 16-bit operand is the assembled
little-endian value. -/

namespace Sys2Proof

/-- The operand forms (rules R151-R163), with the encoded operand. -/
inductive Operand where
  | imp
  | acc
  | imm (v : Byte)
  | zp (z : Byte)
  | zpx (z : Byte)
  | zpy (z : Byte)
  | abs (a : Word)
  | absx (a : Word)
  | absy (a : Word)
  | ind (a : Word)
  | indx (z : Byte)
  | indy (z : Byte)
  | rel (d : Byte)
  deriving DecidableEq, Repr

/-- The instructions. A name ends in its addressing mode where the mnemonic has several rows, and in its opcode
byte where the row is one of the unofficial no-operations (rule R321). -/
inductive Instr where
  -- LDA (rule R180)
  | ldaIndx (z : Byte)
  | ldaZp (z : Byte)
  | ldaImm (v : Byte)
  | ldaAbs (a : Word)
  | ldaIndy (z : Byte)
  | ldaZpx (z : Byte)
  | ldaAbsy (a : Word)
  | ldaAbsx (a : Word)
  -- LDX (rule R181)
  | ldxImm (v : Byte)
  | ldxZp (z : Byte)
  | ldxAbs (a : Word)
  | ldxZpy (z : Byte)
  | ldxAbsy (a : Word)
  -- LDY (rule R182)
  | ldyImm (v : Byte)
  | ldyZp (z : Byte)
  | ldyAbs (a : Word)
  | ldyZpx (z : Byte)
  | ldyAbsx (a : Word)
  -- STA (rule R183)
  | staIndx (z : Byte)
  | staZp (z : Byte)
  | staAbs (a : Word)
  | staIndy (z : Byte)
  | staZpx (z : Byte)
  | staAbsy (a : Word)
  | staAbsx (a : Word)
  -- STX (rule R184)
  | stxZp (z : Byte)
  | stxAbs (a : Word)
  | stxZpy (z : Byte)
  -- STY (rule R185)
  | styZp (z : Byte)
  | styAbs (a : Word)
  | styZpx (z : Byte)
  -- TAX (rule R186)
  | tax
  -- TAY (rule R187)
  | tay
  -- TXA (rule R188)
  | txa
  -- TYA (rule R189)
  | tya
  -- TSX (rule R190)
  | tsx
  -- TXS (rule R191)
  | txs
  -- ADC (rule R212)
  | adcIndx (z : Byte)
  | adcZp (z : Byte)
  | adcImm (v : Byte)
  | adcAbs (a : Word)
  | adcIndy (z : Byte)
  | adcZpx (z : Byte)
  | adcAbsy (a : Word)
  | adcAbsx (a : Word)
  -- SBC (rule R213)
  | sbcIndx (z : Byte)
  | sbcZp (z : Byte)
  | sbcImm (v : Byte)
  | sbcAbs (a : Word)
  | sbcIndy (z : Byte)
  | sbcZpx (z : Byte)
  | sbcAbsy (a : Word)
  | sbcAbsx (a : Word)
  -- AND (rule R214)
  | andIndx (z : Byte)
  | andZp (z : Byte)
  | andImm (v : Byte)
  | andAbs (a : Word)
  | andIndy (z : Byte)
  | andZpx (z : Byte)
  | andAbsy (a : Word)
  | andAbsx (a : Word)
  -- ORA (rule R215)
  | oraIndx (z : Byte)
  | oraZp (z : Byte)
  | oraImm (v : Byte)
  | oraAbs (a : Word)
  | oraIndy (z : Byte)
  | oraZpx (z : Byte)
  | oraAbsy (a : Word)
  | oraAbsx (a : Word)
  -- EOR (rule R216)
  | eorIndx (z : Byte)
  | eorZp (z : Byte)
  | eorImm (v : Byte)
  | eorAbs (a : Word)
  | eorIndy (z : Byte)
  | eorZpx (z : Byte)
  | eorAbsy (a : Word)
  | eorAbsx (a : Word)
  -- CMP (rule R218)
  | cmpIndx (z : Byte)
  | cmpZp (z : Byte)
  | cmpImm (v : Byte)
  | cmpAbs (a : Word)
  | cmpIndy (z : Byte)
  | cmpZpx (z : Byte)
  | cmpAbsy (a : Word)
  | cmpAbsx (a : Word)
  -- CPX (rule R219)
  | cpxImm (v : Byte)
  | cpxZp (z : Byte)
  | cpxAbs (a : Word)
  -- CPY (rule R220)
  | cpyImm (v : Byte)
  | cpyZp (z : Byte)
  | cpyAbs (a : Word)
  -- BIT (rule R221)
  | bitZp (z : Byte)
  | bitAbs (a : Word)
  -- ASL (rule R240)
  | aslZp (z : Byte)
  | aslAcc
  | aslAbs (a : Word)
  | aslZpx (z : Byte)
  | aslAbsx (a : Word)
  -- LSR (rule R241)
  | lsrZp (z : Byte)
  | lsrAcc
  | lsrAbs (a : Word)
  | lsrZpx (z : Byte)
  | lsrAbsx (a : Word)
  -- ROL (rule R242)
  | rolZp (z : Byte)
  | rolAcc
  | rolAbs (a : Word)
  | rolZpx (z : Byte)
  | rolAbsx (a : Word)
  -- ROR (rule R243)
  | rorZp (z : Byte)
  | rorAcc
  | rorAbs (a : Word)
  | rorZpx (z : Byte)
  | rorAbsx (a : Word)
  -- INC (rule R244)
  | incZp (z : Byte)
  | incAbs (a : Word)
  | incZpx (z : Byte)
  | incAbsx (a : Word)
  -- DEC (rule R245)
  | decZp (z : Byte)
  | decAbs (a : Word)
  | decZpx (z : Byte)
  | decAbsx (a : Word)
  -- INX (rule R246)
  | inx
  -- INY (rule R247)
  | iny
  -- DEX (rule R248)
  | dex
  -- DEY (rule R249)
  | dey
  -- BCC (rule R261)
  | bcc (d : Byte)
  -- BCS (rule R262)
  | bcs (d : Byte)
  -- BEQ (rule R263)
  | beq (d : Byte)
  -- BNE (rule R264)
  | bne (d : Byte)
  -- BMI (rule R265)
  | bmi (d : Byte)
  -- BPL (rule R266)
  | bpl (d : Byte)
  -- BVC (rule R267)
  | bvc (d : Byte)
  -- BVS (rule R268)
  | bvs (d : Byte)
  -- JMP (rule R269)
  | jmpAbs (a : Word)
  | jmpInd (a : Word)
  -- JSR (rule R270)
  | jsrAbs (a : Word)
  -- RTS (rule R271)
  | rts
  -- RTI (rule R272)
  | rti
  -- BRK (rule R273)
  | brk
  -- PHA (rule R290)
  | pha
  -- PHP (rule R291)
  | php
  -- PLA (rule R292)
  | pla
  -- PLP (rule R293)
  | plp
  -- CLC (rule R294)
  | clc
  -- SEC (rule R295)
  | sec
  -- CLI (rule R296)
  | cli
  -- SEI (rule R297)
  | sei
  -- CLD (rule R298)
  | cld
  -- SED (rule R299)
  | sed
  -- CLV (rule R300)
  | clv
  -- NOP (rule R301)
  | nop
  -- *NOP (rule R321)
  | unopZp04 (z : Byte)
  | unopAbs0C (a : Word)
  | unopZpx14 (z : Byte)
  | unopImp1A
  | unopAbsx1C (a : Word)
  | unopZpx34 (z : Byte)
  | unopImp3A
  | unopAbsx3C (a : Word)
  | unopZp44 (z : Byte)
  | unopZpx54 (z : Byte)
  | unopImp5A
  | unopAbsx5C (a : Word)
  | unopZp64 (z : Byte)
  | unopZpx74 (z : Byte)
  | unopImp7A
  | unopAbsx7C (a : Word)
  | unopImm80 (v : Byte)
  | unopImm82 (v : Byte)
  | unopImm89 (v : Byte)
  | unopImmC2 (v : Byte)
  | unopZpxD4 (z : Byte)
  | unopImpDA
  | unopAbsxDC (a : Word)
  | unopImmE2 (v : Byte)
  | unopZpxF4 (z : Byte)
  | unopImpFA
  | unopAbsxFC (a : Word)
  -- *LAX (rule R322)
  | laxIndx (z : Byte)
  | laxZp (z : Byte)
  | laxAbs (a : Word)
  | laxIndy (z : Byte)
  | laxZpy (z : Byte)
  | laxAbsy (a : Word)
  -- *SAX (rule R323)
  | saxIndx (z : Byte)
  | saxZp (z : Byte)
  | saxAbs (a : Word)
  | saxZpy (z : Byte)
  -- *SBC (rule R324)
  | usbcImm (v : Byte)
  -- *DCP (rule R325)
  | dcpIndx (z : Byte)
  | dcpZp (z : Byte)
  | dcpAbs (a : Word)
  | dcpIndy (z : Byte)
  | dcpZpx (z : Byte)
  | dcpAbsy (a : Word)
  | dcpAbsx (a : Word)
  -- *ISB (rule R326)
  | isbIndx (z : Byte)
  | isbZp (z : Byte)
  | isbAbs (a : Word)
  | isbIndy (z : Byte)
  | isbZpx (z : Byte)
  | isbAbsy (a : Word)
  | isbAbsx (a : Word)
  -- *SLO (rule R327)
  | sloIndx (z : Byte)
  | sloZp (z : Byte)
  | sloAbs (a : Word)
  | sloIndy (z : Byte)
  | sloZpx (z : Byte)
  | sloAbsy (a : Word)
  | sloAbsx (a : Word)
  -- *RLA (rule R328)
  | rlaIndx (z : Byte)
  | rlaZp (z : Byte)
  | rlaAbs (a : Word)
  | rlaIndy (z : Byte)
  | rlaZpx (z : Byte)
  | rlaAbsy (a : Word)
  | rlaAbsx (a : Word)
  -- *SRE (rule R329)
  | sreIndx (z : Byte)
  | sreZp (z : Byte)
  | sreAbs (a : Word)
  | sreIndy (z : Byte)
  | sreZpx (z : Byte)
  | sreAbsy (a : Word)
  | sreAbsx (a : Word)
  -- *RRA (rule R330)
  | rraIndx (z : Byte)
  | rraZp (z : Byte)
  | rraAbs (a : Word)
  | rraIndy (z : Byte)
  | rraZpx (z : Byte)
  | rraAbsy (a : Word)
  | rraAbsx (a : Word)
  deriving DecidableEq, Repr

end Sys2Proof
end

