-- ==== Sys2Proof/Decode.lean ====
section
/-! DEFINITION. Decode.lean: the decoder (rules R120-R123, R125-R128), the encoder, and the dispatch table's other
columns (rule R126). The table is written row by row as rule R125's opcode map prints it. -/

namespace Sys2Proof

/-- `hi ++ lo` (rules R14, R82). -/
def wordOf (hi lo : Byte) : Word := hi ++ lo

/-- Bits 15-8. -/
def hiByte (w : Word) : Byte := w.extractLsb' 8 8

/-- Bits 7-0. -/
def loByte (w : Word) : Byte := w.extractLsb' 0 8

/-- What an opcode byte says about the bytes after it: none, one operand byte, or a little-endian 16-bit operand
(rules R120-R122). -/
inductive Form where
  | imp (i : Instr)
  | byte (mk : Byte → Instr)
  | word (mk : Word → Instr)

/-- The operand bytes of a form. -/
def Form.operandBytes : Form → Nat
  | .imp _ => 0
  | .byte _ => 1
  | .word _ => 2

/-- One of the 256 slots of the dispatch table (rules R45, R123, R127). -/
inductive Slot where
  | unmapped
  | official (f : Form)
  | unofficial (f : Form)

/-- Opcode map, row 0x (rule R125). -/
def opcodeRow0 : List Slot :=
  [ .official (.imp .brk),
    .official (.byte .oraIndx),
    .unmapped,
    .unofficial (.byte .sloIndx),
    .unofficial (.byte .unopZp04),
    .official (.byte .oraZp),
    .official (.byte .aslZp),
    .unofficial (.byte .sloZp),
    .official (.imp .php),
    .official (.byte .oraImm),
    .official (.imp .aslAcc),
    .unmapped,
    .unofficial (.word .unopAbs0C),
    .official (.word .oraAbs),
    .official (.word .aslAbs),
    .unofficial (.word .sloAbs) ]

/-- Opcode map, row 1x (rule R125). -/
def opcodeRow1 : List Slot :=
  [ .official (.byte .bpl),
    .official (.byte .oraIndy),
    .unmapped,
    .unofficial (.byte .sloIndy),
    .unofficial (.byte .unopZpx14),
    .official (.byte .oraZpx),
    .official (.byte .aslZpx),
    .unofficial (.byte .sloZpx),
    .official (.imp .clc),
    .official (.word .oraAbsy),
    .unofficial (.imp .unopImp1A),
    .unofficial (.word .sloAbsy),
    .unofficial (.word .unopAbsx1C),
    .official (.word .oraAbsx),
    .official (.word .aslAbsx),
    .unofficial (.word .sloAbsx) ]

/-- Opcode map, row 2x (rule R125). -/
def opcodeRow2 : List Slot :=
  [ .official (.word .jsrAbs),
    .official (.byte .andIndx),
    .unmapped,
    .unofficial (.byte .rlaIndx),
    .official (.byte .bitZp),
    .official (.byte .andZp),
    .official (.byte .rolZp),
    .unofficial (.byte .rlaZp),
    .official (.imp .plp),
    .official (.byte .andImm),
    .official (.imp .rolAcc),
    .unmapped,
    .official (.word .bitAbs),
    .official (.word .andAbs),
    .official (.word .rolAbs),
    .unofficial (.word .rlaAbs) ]

/-- Opcode map, row 3x (rule R125). -/
def opcodeRow3 : List Slot :=
  [ .official (.byte .bmi),
    .official (.byte .andIndy),
    .unmapped,
    .unofficial (.byte .rlaIndy),
    .unofficial (.byte .unopZpx34),
    .official (.byte .andZpx),
    .official (.byte .rolZpx),
    .unofficial (.byte .rlaZpx),
    .official (.imp .sec),
    .official (.word .andAbsy),
    .unofficial (.imp .unopImp3A),
    .unofficial (.word .rlaAbsy),
    .unofficial (.word .unopAbsx3C),
    .official (.word .andAbsx),
    .official (.word .rolAbsx),
    .unofficial (.word .rlaAbsx) ]

/-- Opcode map, row 4x (rule R125). -/
def opcodeRow4 : List Slot :=
  [ .official (.imp .rti),
    .official (.byte .eorIndx),
    .unmapped,
    .unofficial (.byte .sreIndx),
    .unofficial (.byte .unopZp44),
    .official (.byte .eorZp),
    .official (.byte .lsrZp),
    .unofficial (.byte .sreZp),
    .official (.imp .pha),
    .official (.byte .eorImm),
    .official (.imp .lsrAcc),
    .unmapped,
    .official (.word .jmpAbs),
    .official (.word .eorAbs),
    .official (.word .lsrAbs),
    .unofficial (.word .sreAbs) ]

/-- Opcode map, row 5x (rule R125). -/
def opcodeRow5 : List Slot :=
  [ .official (.byte .bvc),
    .official (.byte .eorIndy),
    .unmapped,
    .unofficial (.byte .sreIndy),
    .unofficial (.byte .unopZpx54),
    .official (.byte .eorZpx),
    .official (.byte .lsrZpx),
    .unofficial (.byte .sreZpx),
    .official (.imp .cli),
    .official (.word .eorAbsy),
    .unofficial (.imp .unopImp5A),
    .unofficial (.word .sreAbsy),
    .unofficial (.word .unopAbsx5C),
    .official (.word .eorAbsx),
    .official (.word .lsrAbsx),
    .unofficial (.word .sreAbsx) ]

/-- Opcode map, row 6x (rule R125). -/
def opcodeRow6 : List Slot :=
  [ .official (.imp .rts),
    .official (.byte .adcIndx),
    .unmapped,
    .unofficial (.byte .rraIndx),
    .unofficial (.byte .unopZp64),
    .official (.byte .adcZp),
    .official (.byte .rorZp),
    .unofficial (.byte .rraZp),
    .official (.imp .pla),
    .official (.byte .adcImm),
    .official (.imp .rorAcc),
    .unmapped,
    .official (.word .jmpInd),
    .official (.word .adcAbs),
    .official (.word .rorAbs),
    .unofficial (.word .rraAbs) ]

/-- Opcode map, row 7x (rule R125). -/
def opcodeRow7 : List Slot :=
  [ .official (.byte .bvs),
    .official (.byte .adcIndy),
    .unmapped,
    .unofficial (.byte .rraIndy),
    .unofficial (.byte .unopZpx74),
    .official (.byte .adcZpx),
    .official (.byte .rorZpx),
    .unofficial (.byte .rraZpx),
    .official (.imp .sei),
    .official (.word .adcAbsy),
    .unofficial (.imp .unopImp7A),
    .unofficial (.word .rraAbsy),
    .unofficial (.word .unopAbsx7C),
    .official (.word .adcAbsx),
    .official (.word .rorAbsx),
    .unofficial (.word .rraAbsx) ]

/-- Opcode map, row 8x (rule R125). -/
def opcodeRow8 : List Slot :=
  [ .unofficial (.byte .unopImm80),
    .official (.byte .staIndx),
    .unofficial (.byte .unopImm82),
    .unofficial (.byte .saxIndx),
    .official (.byte .styZp),
    .official (.byte .staZp),
    .official (.byte .stxZp),
    .unofficial (.byte .saxZp),
    .official (.imp .dey),
    .unofficial (.byte .unopImm89),
    .official (.imp .txa),
    .unmapped,
    .official (.word .styAbs),
    .official (.word .staAbs),
    .official (.word .stxAbs),
    .unofficial (.word .saxAbs) ]

/-- Opcode map, row 9x (rule R125). -/
def opcodeRow9 : List Slot :=
  [ .official (.byte .bcc),
    .official (.byte .staIndy),
    .unmapped,
    .unmapped,
    .official (.byte .styZpx),
    .official (.byte .staZpx),
    .official (.byte .stxZpy),
    .unofficial (.byte .saxZpy),
    .official (.imp .tya),
    .official (.word .staAbsy),
    .official (.imp .txs),
    .unmapped,
    .unmapped,
    .official (.word .staAbsx),
    .unmapped,
    .unmapped ]

/-- Opcode map, row Ax (rule R125). -/
def opcodeRowA : List Slot :=
  [ .official (.byte .ldyImm),
    .official (.byte .ldaIndx),
    .official (.byte .ldxImm),
    .unofficial (.byte .laxIndx),
    .official (.byte .ldyZp),
    .official (.byte .ldaZp),
    .official (.byte .ldxZp),
    .unofficial (.byte .laxZp),
    .official (.imp .tay),
    .official (.byte .ldaImm),
    .official (.imp .tax),
    .unmapped,
    .official (.word .ldyAbs),
    .official (.word .ldaAbs),
    .official (.word .ldxAbs),
    .unofficial (.word .laxAbs) ]

/-- Opcode map, row Bx (rule R125). -/
def opcodeRowB : List Slot :=
  [ .official (.byte .bcs),
    .official (.byte .ldaIndy),
    .unmapped,
    .unofficial (.byte .laxIndy),
    .official (.byte .ldyZpx),
    .official (.byte .ldaZpx),
    .official (.byte .ldxZpy),
    .unofficial (.byte .laxZpy),
    .official (.imp .clv),
    .official (.word .ldaAbsy),
    .official (.imp .tsx),
    .unmapped,
    .official (.word .ldyAbsx),
    .official (.word .ldaAbsx),
    .official (.word .ldxAbsy),
    .unofficial (.word .laxAbsy) ]

/-- Opcode map, row Cx (rule R125). -/
def opcodeRowC : List Slot :=
  [ .official (.byte .cpyImm),
    .official (.byte .cmpIndx),
    .unofficial (.byte .unopImmC2),
    .unofficial (.byte .dcpIndx),
    .official (.byte .cpyZp),
    .official (.byte .cmpZp),
    .official (.byte .decZp),
    .unofficial (.byte .dcpZp),
    .official (.imp .iny),
    .official (.byte .cmpImm),
    .official (.imp .dex),
    .unmapped,
    .official (.word .cpyAbs),
    .official (.word .cmpAbs),
    .official (.word .decAbs),
    .unofficial (.word .dcpAbs) ]

/-- Opcode map, row Dx (rule R125). -/
def opcodeRowD : List Slot :=
  [ .official (.byte .bne),
    .official (.byte .cmpIndy),
    .unmapped,
    .unofficial (.byte .dcpIndy),
    .unofficial (.byte .unopZpxD4),
    .official (.byte .cmpZpx),
    .official (.byte .decZpx),
    .unofficial (.byte .dcpZpx),
    .official (.imp .cld),
    .official (.word .cmpAbsy),
    .unofficial (.imp .unopImpDA),
    .unofficial (.word .dcpAbsy),
    .unofficial (.word .unopAbsxDC),
    .official (.word .cmpAbsx),
    .official (.word .decAbsx),
    .unofficial (.word .dcpAbsx) ]

/-- Opcode map, row Ex (rule R125). -/
def opcodeRowE : List Slot :=
  [ .official (.byte .cpxImm),
    .official (.byte .sbcIndx),
    .unofficial (.byte .unopImmE2),
    .unofficial (.byte .isbIndx),
    .official (.byte .cpxZp),
    .official (.byte .sbcZp),
    .official (.byte .incZp),
    .unofficial (.byte .isbZp),
    .official (.imp .inx),
    .official (.byte .sbcImm),
    .official (.imp .nop),
    .unofficial (.byte .usbcImm),
    .official (.word .cpxAbs),
    .official (.word .sbcAbs),
    .official (.word .incAbs),
    .unofficial (.word .isbAbs) ]

/-- Opcode map, row Fx (rule R125). -/
def opcodeRowF : List Slot :=
  [ .official (.byte .beq),
    .official (.byte .sbcIndy),
    .unmapped,
    .unofficial (.byte .isbIndy),
    .unofficial (.byte .unopZpxF4),
    .official (.byte .sbcZpx),
    .official (.byte .incZpx),
    .unofficial (.byte .isbZpx),
    .official (.imp .sed),
    .official (.word .sbcAbsy),
    .unofficial (.imp .unopImpFA),
    .unofficial (.word .isbAbsy),
    .unofficial (.word .unopAbsxFC),
    .official (.word .sbcAbsx),
    .official (.word .incAbsx),
    .unofficial (.word .isbAbsx) ]

/-- The opcode map (rule R125). -/
def opcodeMap : List (List Slot) :=
  [opcodeRow0, opcodeRow1, opcodeRow2, opcodeRow3, opcodeRow4, opcodeRow5, opcodeRow6, opcodeRow7]
    ++ [opcodeRow8, opcodeRow9, opcodeRowA, opcodeRowB, opcodeRowC, opcodeRowD, opcodeRowE, opcodeRowF]

/-- The slot of an opcode byte: high nibble the row, low nibble the column. -/
def slotOf (op : Byte) : Slot :=
  ((opcodeMap.getD (op.toNat / 16) []).getD (op.toNat % 16) .unmapped)

/-- What the table maps an opcode byte to, under `UNOFFICIAL_OPCODES` (rules R123, R127, R320). -/
def formOf (u : UnofficialOpcodes) (op : Byte) : Option Form :=
  match slotOf op, u with
  | .official f, _ => some f
  | .unofficial f, .nestest => some f
  | .unofficial _, .none => none
  | .unmapped, _ => none

/-- Why bytes do not decode. -/
inductive DecodeError where
  /-- there is no byte -/
  | empty
  /-- the opcode byte has no table entry (rule R127) -/
  | unmapped (op : Byte)
  /-- the operand bytes do not all lie in the list -/
  | truncated (op : Byte)
  deriving DecidableEq, Repr

/-- The decoder: the instruction at the head of a list of bytes, and the bytes after it (rules R120-R123). -/
def decode (u : UnofficialOpcodes) (bytes : List Byte) : Except DecodeError (Instr × List Byte) :=
  match bytes with
  | [] => .error .empty
  | op :: rest =>
    match formOf u op, rest with
    | none, _ => .error (.unmapped op)
    | some (.imp i), rest => .ok (i, rest)
    | some (.byte mk), b :: rest => .ok (mk b, rest)
    | some (.word mk), lo :: hi :: rest => .ok (mk (wordOf hi lo), rest)
    | some _, _ => .error (.truncated op)

/-- The encoder, from the same table (rules R121, R122, R126). -/
def encode : Instr → List Byte
  | .ldaIndx z => [0xA1, z]
  | .ldaZp z => [0xA5, z]
  | .ldaImm v => [0xA9, v]
  | .ldaAbs a => [0xAD, loByte a, hiByte a]
  | .ldaIndy z => [0xB1, z]
  | .ldaZpx z => [0xB5, z]
  | .ldaAbsy a => [0xB9, loByte a, hiByte a]
  | .ldaAbsx a => [0xBD, loByte a, hiByte a]
  | .ldxImm v => [0xA2, v]
  | .ldxZp z => [0xA6, z]
  | .ldxAbs a => [0xAE, loByte a, hiByte a]
  | .ldxZpy z => [0xB6, z]
  | .ldxAbsy a => [0xBE, loByte a, hiByte a]
  | .ldyImm v => [0xA0, v]
  | .ldyZp z => [0xA4, z]
  | .ldyAbs a => [0xAC, loByte a, hiByte a]
  | .ldyZpx z => [0xB4, z]
  | .ldyAbsx a => [0xBC, loByte a, hiByte a]
  | .staIndx z => [0x81, z]
  | .staZp z => [0x85, z]
  | .staAbs a => [0x8D, loByte a, hiByte a]
  | .staIndy z => [0x91, z]
  | .staZpx z => [0x95, z]
  | .staAbsy a => [0x99, loByte a, hiByte a]
  | .staAbsx a => [0x9D, loByte a, hiByte a]
  | .stxZp z => [0x86, z]
  | .stxAbs a => [0x8E, loByte a, hiByte a]
  | .stxZpy z => [0x96, z]
  | .styZp z => [0x84, z]
  | .styAbs a => [0x8C, loByte a, hiByte a]
  | .styZpx z => [0x94, z]
  | .tax => [0xAA]
  | .tay => [0xA8]
  | .txa => [0x8A]
  | .tya => [0x98]
  | .tsx => [0xBA]
  | .txs => [0x9A]
  | .adcIndx z => [0x61, z]
  | .adcZp z => [0x65, z]
  | .adcImm v => [0x69, v]
  | .adcAbs a => [0x6D, loByte a, hiByte a]
  | .adcIndy z => [0x71, z]
  | .adcZpx z => [0x75, z]
  | .adcAbsy a => [0x79, loByte a, hiByte a]
  | .adcAbsx a => [0x7D, loByte a, hiByte a]
  | .sbcIndx z => [0xE1, z]
  | .sbcZp z => [0xE5, z]
  | .sbcImm v => [0xE9, v]
  | .sbcAbs a => [0xED, loByte a, hiByte a]
  | .sbcIndy z => [0xF1, z]
  | .sbcZpx z => [0xF5, z]
  | .sbcAbsy a => [0xF9, loByte a, hiByte a]
  | .sbcAbsx a => [0xFD, loByte a, hiByte a]
  | .andIndx z => [0x21, z]
  | .andZp z => [0x25, z]
  | .andImm v => [0x29, v]
  | .andAbs a => [0x2D, loByte a, hiByte a]
  | .andIndy z => [0x31, z]
  | .andZpx z => [0x35, z]
  | .andAbsy a => [0x39, loByte a, hiByte a]
  | .andAbsx a => [0x3D, loByte a, hiByte a]
  | .oraIndx z => [0x01, z]
  | .oraZp z => [0x05, z]
  | .oraImm v => [0x09, v]
  | .oraAbs a => [0x0D, loByte a, hiByte a]
  | .oraIndy z => [0x11, z]
  | .oraZpx z => [0x15, z]
  | .oraAbsy a => [0x19, loByte a, hiByte a]
  | .oraAbsx a => [0x1D, loByte a, hiByte a]
  | .eorIndx z => [0x41, z]
  | .eorZp z => [0x45, z]
  | .eorImm v => [0x49, v]
  | .eorAbs a => [0x4D, loByte a, hiByte a]
  | .eorIndy z => [0x51, z]
  | .eorZpx z => [0x55, z]
  | .eorAbsy a => [0x59, loByte a, hiByte a]
  | .eorAbsx a => [0x5D, loByte a, hiByte a]
  | .cmpIndx z => [0xC1, z]
  | .cmpZp z => [0xC5, z]
  | .cmpImm v => [0xC9, v]
  | .cmpAbs a => [0xCD, loByte a, hiByte a]
  | .cmpIndy z => [0xD1, z]
  | .cmpZpx z => [0xD5, z]
  | .cmpAbsy a => [0xD9, loByte a, hiByte a]
  | .cmpAbsx a => [0xDD, loByte a, hiByte a]
  | .cpxImm v => [0xE0, v]
  | .cpxZp z => [0xE4, z]
  | .cpxAbs a => [0xEC, loByte a, hiByte a]
  | .cpyImm v => [0xC0, v]
  | .cpyZp z => [0xC4, z]
  | .cpyAbs a => [0xCC, loByte a, hiByte a]
  | .bitZp z => [0x24, z]
  | .bitAbs a => [0x2C, loByte a, hiByte a]
  | .aslZp z => [0x06, z]
  | .aslAcc => [0x0A]
  | .aslAbs a => [0x0E, loByte a, hiByte a]
  | .aslZpx z => [0x16, z]
  | .aslAbsx a => [0x1E, loByte a, hiByte a]
  | .lsrZp z => [0x46, z]
  | .lsrAcc => [0x4A]
  | .lsrAbs a => [0x4E, loByte a, hiByte a]
  | .lsrZpx z => [0x56, z]
  | .lsrAbsx a => [0x5E, loByte a, hiByte a]
  | .rolZp z => [0x26, z]
  | .rolAcc => [0x2A]
  | .rolAbs a => [0x2E, loByte a, hiByte a]
  | .rolZpx z => [0x36, z]
  | .rolAbsx a => [0x3E, loByte a, hiByte a]
  | .rorZp z => [0x66, z]
  | .rorAcc => [0x6A]
  | .rorAbs a => [0x6E, loByte a, hiByte a]
  | .rorZpx z => [0x76, z]
  | .rorAbsx a => [0x7E, loByte a, hiByte a]
  | .incZp z => [0xE6, z]
  | .incAbs a => [0xEE, loByte a, hiByte a]
  | .incZpx z => [0xF6, z]
  | .incAbsx a => [0xFE, loByte a, hiByte a]
  | .decZp z => [0xC6, z]
  | .decAbs a => [0xCE, loByte a, hiByte a]
  | .decZpx z => [0xD6, z]
  | .decAbsx a => [0xDE, loByte a, hiByte a]
  | .inx => [0xE8]
  | .iny => [0xC8]
  | .dex => [0xCA]
  | .dey => [0x88]
  | .bcc d => [0x90, d]
  | .bcs d => [0xB0, d]
  | .beq d => [0xF0, d]
  | .bne d => [0xD0, d]
  | .bmi d => [0x30, d]
  | .bpl d => [0x10, d]
  | .bvc d => [0x50, d]
  | .bvs d => [0x70, d]
  | .jmpAbs a => [0x4C, loByte a, hiByte a]
  | .jmpInd a => [0x6C, loByte a, hiByte a]
  | .jsrAbs a => [0x20, loByte a, hiByte a]
  | .rts => [0x60]
  | .rti => [0x40]
  | .brk => [0x00]
  | .pha => [0x48]
  | .php => [0x08]
  | .pla => [0x68]
  | .plp => [0x28]
  | .clc => [0x18]
  | .sec => [0x38]
  | .cli => [0x58]
  | .sei => [0x78]
  | .cld => [0xD8]
  | .sed => [0xF8]
  | .clv => [0xB8]
  | .nop => [0xEA]
  | .unopZp04 z => [0x04, z]
  | .unopAbs0C a => [0x0C, loByte a, hiByte a]
  | .unopZpx14 z => [0x14, z]
  | .unopImp1A => [0x1A]
  | .unopAbsx1C a => [0x1C, loByte a, hiByte a]
  | .unopZpx34 z => [0x34, z]
  | .unopImp3A => [0x3A]
  | .unopAbsx3C a => [0x3C, loByte a, hiByte a]
  | .unopZp44 z => [0x44, z]
  | .unopZpx54 z => [0x54, z]
  | .unopImp5A => [0x5A]
  | .unopAbsx5C a => [0x5C, loByte a, hiByte a]
  | .unopZp64 z => [0x64, z]
  | .unopZpx74 z => [0x74, z]
  | .unopImp7A => [0x7A]
  | .unopAbsx7C a => [0x7C, loByte a, hiByte a]
  | .unopImm80 v => [0x80, v]
  | .unopImm82 v => [0x82, v]
  | .unopImm89 v => [0x89, v]
  | .unopImmC2 v => [0xC2, v]
  | .unopZpxD4 z => [0xD4, z]
  | .unopImpDA => [0xDA]
  | .unopAbsxDC a => [0xDC, loByte a, hiByte a]
  | .unopImmE2 v => [0xE2, v]
  | .unopZpxF4 z => [0xF4, z]
  | .unopImpFA => [0xFA]
  | .unopAbsxFC a => [0xFC, loByte a, hiByte a]
  | .laxIndx z => [0xA3, z]
  | .laxZp z => [0xA7, z]
  | .laxAbs a => [0xAF, loByte a, hiByte a]
  | .laxIndy z => [0xB3, z]
  | .laxZpy z => [0xB7, z]
  | .laxAbsy a => [0xBF, loByte a, hiByte a]
  | .saxIndx z => [0x83, z]
  | .saxZp z => [0x87, z]
  | .saxAbs a => [0x8F, loByte a, hiByte a]
  | .saxZpy z => [0x97, z]
  | .usbcImm v => [0xEB, v]
  | .dcpIndx z => [0xC3, z]
  | .dcpZp z => [0xC7, z]
  | .dcpAbs a => [0xCF, loByte a, hiByte a]
  | .dcpIndy z => [0xD3, z]
  | .dcpZpx z => [0xD7, z]
  | .dcpAbsy a => [0xDB, loByte a, hiByte a]
  | .dcpAbsx a => [0xDF, loByte a, hiByte a]
  | .isbIndx z => [0xE3, z]
  | .isbZp z => [0xE7, z]
  | .isbAbs a => [0xEF, loByte a, hiByte a]
  | .isbIndy z => [0xF3, z]
  | .isbZpx z => [0xF7, z]
  | .isbAbsy a => [0xFB, loByte a, hiByte a]
  | .isbAbsx a => [0xFF, loByte a, hiByte a]
  | .sloIndx z => [0x03, z]
  | .sloZp z => [0x07, z]
  | .sloAbs a => [0x0F, loByte a, hiByte a]
  | .sloIndy z => [0x13, z]
  | .sloZpx z => [0x17, z]
  | .sloAbsy a => [0x1B, loByte a, hiByte a]
  | .sloAbsx a => [0x1F, loByte a, hiByte a]
  | .rlaIndx z => [0x23, z]
  | .rlaZp z => [0x27, z]
  | .rlaAbs a => [0x2F, loByte a, hiByte a]
  | .rlaIndy z => [0x33, z]
  | .rlaZpx z => [0x37, z]
  | .rlaAbsy a => [0x3B, loByte a, hiByte a]
  | .rlaAbsx a => [0x3F, loByte a, hiByte a]
  | .sreIndx z => [0x43, z]
  | .sreZp z => [0x47, z]
  | .sreAbs a => [0x4F, loByte a, hiByte a]
  | .sreIndy z => [0x53, z]
  | .sreZpx z => [0x57, z]
  | .sreAbsy a => [0x5B, loByte a, hiByte a]
  | .sreAbsx a => [0x5F, loByte a, hiByte a]
  | .rraIndx z => [0x63, z]
  | .rraZp z => [0x67, z]
  | .rraAbs a => [0x6F, loByte a, hiByte a]
  | .rraIndy z => [0x73, z]
  | .rraZpx z => [0x77, z]
  | .rraAbsy a => [0x7B, loByte a, hiByte a]
  | .rraAbsx a => [0x7F, loByte a, hiByte a]

/-- The addressing mode of an instruction with its encoded operand (rule R126). -/
def Instr.operand : Instr → Operand
  | .ldaIndx z => .indx z
  | .ldaZp z => .zp z
  | .ldaImm v => .imm v
  | .ldaAbs a => .abs a
  | .ldaIndy z => .indy z
  | .ldaZpx z => .zpx z
  | .ldaAbsy a => .absy a
  | .ldaAbsx a => .absx a
  | .ldxImm v => .imm v
  | .ldxZp z => .zp z
  | .ldxAbs a => .abs a
  | .ldxZpy z => .zpy z
  | .ldxAbsy a => .absy a
  | .ldyImm v => .imm v
  | .ldyZp z => .zp z
  | .ldyAbs a => .abs a
  | .ldyZpx z => .zpx z
  | .ldyAbsx a => .absx a
  | .staIndx z => .indx z
  | .staZp z => .zp z
  | .staAbs a => .abs a
  | .staIndy z => .indy z
  | .staZpx z => .zpx z
  | .staAbsy a => .absy a
  | .staAbsx a => .absx a
  | .stxZp z => .zp z
  | .stxAbs a => .abs a
  | .stxZpy z => .zpy z
  | .styZp z => .zp z
  | .styAbs a => .abs a
  | .styZpx z => .zpx z
  | .tax => .imp
  | .tay => .imp
  | .txa => .imp
  | .tya => .imp
  | .tsx => .imp
  | .txs => .imp
  | .adcIndx z => .indx z
  | .adcZp z => .zp z
  | .adcImm v => .imm v
  | .adcAbs a => .abs a
  | .adcIndy z => .indy z
  | .adcZpx z => .zpx z
  | .adcAbsy a => .absy a
  | .adcAbsx a => .absx a
  | .sbcIndx z => .indx z
  | .sbcZp z => .zp z
  | .sbcImm v => .imm v
  | .sbcAbs a => .abs a
  | .sbcIndy z => .indy z
  | .sbcZpx z => .zpx z
  | .sbcAbsy a => .absy a
  | .sbcAbsx a => .absx a
  | .andIndx z => .indx z
  | .andZp z => .zp z
  | .andImm v => .imm v
  | .andAbs a => .abs a
  | .andIndy z => .indy z
  | .andZpx z => .zpx z
  | .andAbsy a => .absy a
  | .andAbsx a => .absx a
  | .oraIndx z => .indx z
  | .oraZp z => .zp z
  | .oraImm v => .imm v
  | .oraAbs a => .abs a
  | .oraIndy z => .indy z
  | .oraZpx z => .zpx z
  | .oraAbsy a => .absy a
  | .oraAbsx a => .absx a
  | .eorIndx z => .indx z
  | .eorZp z => .zp z
  | .eorImm v => .imm v
  | .eorAbs a => .abs a
  | .eorIndy z => .indy z
  | .eorZpx z => .zpx z
  | .eorAbsy a => .absy a
  | .eorAbsx a => .absx a
  | .cmpIndx z => .indx z
  | .cmpZp z => .zp z
  | .cmpImm v => .imm v
  | .cmpAbs a => .abs a
  | .cmpIndy z => .indy z
  | .cmpZpx z => .zpx z
  | .cmpAbsy a => .absy a
  | .cmpAbsx a => .absx a
  | .cpxImm v => .imm v
  | .cpxZp z => .zp z
  | .cpxAbs a => .abs a
  | .cpyImm v => .imm v
  | .cpyZp z => .zp z
  | .cpyAbs a => .abs a
  | .bitZp z => .zp z
  | .bitAbs a => .abs a
  | .aslZp z => .zp z
  | .aslAcc => .acc
  | .aslAbs a => .abs a
  | .aslZpx z => .zpx z
  | .aslAbsx a => .absx a
  | .lsrZp z => .zp z
  | .lsrAcc => .acc
  | .lsrAbs a => .abs a
  | .lsrZpx z => .zpx z
  | .lsrAbsx a => .absx a
  | .rolZp z => .zp z
  | .rolAcc => .acc
  | .rolAbs a => .abs a
  | .rolZpx z => .zpx z
  | .rolAbsx a => .absx a
  | .rorZp z => .zp z
  | .rorAcc => .acc
  | .rorAbs a => .abs a
  | .rorZpx z => .zpx z
  | .rorAbsx a => .absx a
  | .incZp z => .zp z
  | .incAbs a => .abs a
  | .incZpx z => .zpx z
  | .incAbsx a => .absx a
  | .decZp z => .zp z
  | .decAbs a => .abs a
  | .decZpx z => .zpx z
  | .decAbsx a => .absx a
  | .inx => .imp
  | .iny => .imp
  | .dex => .imp
  | .dey => .imp
  | .bcc d => .rel d
  | .bcs d => .rel d
  | .beq d => .rel d
  | .bne d => .rel d
  | .bmi d => .rel d
  | .bpl d => .rel d
  | .bvc d => .rel d
  | .bvs d => .rel d
  | .jmpAbs a => .abs a
  | .jmpInd a => .ind a
  | .jsrAbs a => .abs a
  | .rts => .imp
  | .rti => .imp
  | .brk => .imp
  | .pha => .imp
  | .php => .imp
  | .pla => .imp
  | .plp => .imp
  | .clc => .imp
  | .sec => .imp
  | .cli => .imp
  | .sei => .imp
  | .cld => .imp
  | .sed => .imp
  | .clv => .imp
  | .nop => .imp
  | .unopZp04 z => .zp z
  | .unopAbs0C a => .abs a
  | .unopZpx14 z => .zpx z
  | .unopImp1A => .imp
  | .unopAbsx1C a => .absx a
  | .unopZpx34 z => .zpx z
  | .unopImp3A => .imp
  | .unopAbsx3C a => .absx a
  | .unopZp44 z => .zp z
  | .unopZpx54 z => .zpx z
  | .unopImp5A => .imp
  | .unopAbsx5C a => .absx a
  | .unopZp64 z => .zp z
  | .unopZpx74 z => .zpx z
  | .unopImp7A => .imp
  | .unopAbsx7C a => .absx a
  | .unopImm80 v => .imm v
  | .unopImm82 v => .imm v
  | .unopImm89 v => .imm v
  | .unopImmC2 v => .imm v
  | .unopZpxD4 z => .zpx z
  | .unopImpDA => .imp
  | .unopAbsxDC a => .absx a
  | .unopImmE2 v => .imm v
  | .unopZpxF4 z => .zpx z
  | .unopImpFA => .imp
  | .unopAbsxFC a => .absx a
  | .laxIndx z => .indx z
  | .laxZp z => .zp z
  | .laxAbs a => .abs a
  | .laxIndy z => .indy z
  | .laxZpy z => .zpy z
  | .laxAbsy a => .absy a
  | .saxIndx z => .indx z
  | .saxZp z => .zp z
  | .saxAbs a => .abs a
  | .saxZpy z => .zpy z
  | .usbcImm v => .imm v
  | .dcpIndx z => .indx z
  | .dcpZp z => .zp z
  | .dcpAbs a => .abs a
  | .dcpIndy z => .indy z
  | .dcpZpx z => .zpx z
  | .dcpAbsy a => .absy a
  | .dcpAbsx a => .absx a
  | .isbIndx z => .indx z
  | .isbZp z => .zp z
  | .isbAbs a => .abs a
  | .isbIndy z => .indy z
  | .isbZpx z => .zpx z
  | .isbAbsy a => .absy a
  | .isbAbsx a => .absx a
  | .sloIndx z => .indx z
  | .sloZp z => .zp z
  | .sloAbs a => .abs a
  | .sloIndy z => .indy z
  | .sloZpx z => .zpx z
  | .sloAbsy a => .absy a
  | .sloAbsx a => .absx a
  | .rlaIndx z => .indx z
  | .rlaZp z => .zp z
  | .rlaAbs a => .abs a
  | .rlaIndy z => .indy z
  | .rlaZpx z => .zpx z
  | .rlaAbsy a => .absy a
  | .rlaAbsx a => .absx a
  | .sreIndx z => .indx z
  | .sreZp z => .zp z
  | .sreAbs a => .abs a
  | .sreIndy z => .indy z
  | .sreZpx z => .zpx z
  | .sreAbsy a => .absy a
  | .sreAbsx a => .absx a
  | .rraIndx z => .indx z
  | .rraZp z => .zp z
  | .rraAbs a => .abs a
  | .rraIndy z => .indy z
  | .rraZpx z => .zpx z
  | .rraAbsy a => .absy a
  | .rraAbsx a => .absx a

/-- The encoded length of a mode (rule R120). -/
def Operand.length : Operand → Nat
  | .imp | .acc => 1
  | .imm _ | .zp _ | .zpx _ | .zpy _ | .indx _ | .indy _ | .rel _ => 2
  | .abs _ | .absx _ | .absy _ | .ind _ => 3

/-- The mnemonic, as rule R126 and a trace print it. -/
def Instr.mnemonic : Instr → String
  | .ldaIndx _ => "LDA"
  | .ldaZp _ => "LDA"
  | .ldaImm _ => "LDA"
  | .ldaAbs _ => "LDA"
  | .ldaIndy _ => "LDA"
  | .ldaZpx _ => "LDA"
  | .ldaAbsy _ => "LDA"
  | .ldaAbsx _ => "LDA"
  | .ldxImm _ => "LDX"
  | .ldxZp _ => "LDX"
  | .ldxAbs _ => "LDX"
  | .ldxZpy _ => "LDX"
  | .ldxAbsy _ => "LDX"
  | .ldyImm _ => "LDY"
  | .ldyZp _ => "LDY"
  | .ldyAbs _ => "LDY"
  | .ldyZpx _ => "LDY"
  | .ldyAbsx _ => "LDY"
  | .staIndx _ => "STA"
  | .staZp _ => "STA"
  | .staAbs _ => "STA"
  | .staIndy _ => "STA"
  | .staZpx _ => "STA"
  | .staAbsy _ => "STA"
  | .staAbsx _ => "STA"
  | .stxZp _ => "STX"
  | .stxAbs _ => "STX"
  | .stxZpy _ => "STX"
  | .styZp _ => "STY"
  | .styAbs _ => "STY"
  | .styZpx _ => "STY"
  | .tax => "TAX"
  | .tay => "TAY"
  | .txa => "TXA"
  | .tya => "TYA"
  | .tsx => "TSX"
  | .txs => "TXS"
  | .adcIndx _ => "ADC"
  | .adcZp _ => "ADC"
  | .adcImm _ => "ADC"
  | .adcAbs _ => "ADC"
  | .adcIndy _ => "ADC"
  | .adcZpx _ => "ADC"
  | .adcAbsy _ => "ADC"
  | .adcAbsx _ => "ADC"
  | .sbcIndx _ => "SBC"
  | .sbcZp _ => "SBC"
  | .sbcImm _ => "SBC"
  | .sbcAbs _ => "SBC"
  | .sbcIndy _ => "SBC"
  | .sbcZpx _ => "SBC"
  | .sbcAbsy _ => "SBC"
  | .sbcAbsx _ => "SBC"
  | .andIndx _ => "AND"
  | .andZp _ => "AND"
  | .andImm _ => "AND"
  | .andAbs _ => "AND"
  | .andIndy _ => "AND"
  | .andZpx _ => "AND"
  | .andAbsy _ => "AND"
  | .andAbsx _ => "AND"
  | .oraIndx _ => "ORA"
  | .oraZp _ => "ORA"
  | .oraImm _ => "ORA"
  | .oraAbs _ => "ORA"
  | .oraIndy _ => "ORA"
  | .oraZpx _ => "ORA"
  | .oraAbsy _ => "ORA"
  | .oraAbsx _ => "ORA"
  | .eorIndx _ => "EOR"
  | .eorZp _ => "EOR"
  | .eorImm _ => "EOR"
  | .eorAbs _ => "EOR"
  | .eorIndy _ => "EOR"
  | .eorZpx _ => "EOR"
  | .eorAbsy _ => "EOR"
  | .eorAbsx _ => "EOR"
  | .cmpIndx _ => "CMP"
  | .cmpZp _ => "CMP"
  | .cmpImm _ => "CMP"
  | .cmpAbs _ => "CMP"
  | .cmpIndy _ => "CMP"
  | .cmpZpx _ => "CMP"
  | .cmpAbsy _ => "CMP"
  | .cmpAbsx _ => "CMP"
  | .cpxImm _ => "CPX"
  | .cpxZp _ => "CPX"
  | .cpxAbs _ => "CPX"
  | .cpyImm _ => "CPY"
  | .cpyZp _ => "CPY"
  | .cpyAbs _ => "CPY"
  | .bitZp _ => "BIT"
  | .bitAbs _ => "BIT"
  | .aslZp _ => "ASL"
  | .aslAcc => "ASL"
  | .aslAbs _ => "ASL"
  | .aslZpx _ => "ASL"
  | .aslAbsx _ => "ASL"
  | .lsrZp _ => "LSR"
  | .lsrAcc => "LSR"
  | .lsrAbs _ => "LSR"
  | .lsrZpx _ => "LSR"
  | .lsrAbsx _ => "LSR"
  | .rolZp _ => "ROL"
  | .rolAcc => "ROL"
  | .rolAbs _ => "ROL"
  | .rolZpx _ => "ROL"
  | .rolAbsx _ => "ROL"
  | .rorZp _ => "ROR"
  | .rorAcc => "ROR"
  | .rorAbs _ => "ROR"
  | .rorZpx _ => "ROR"
  | .rorAbsx _ => "ROR"
  | .incZp _ => "INC"
  | .incAbs _ => "INC"
  | .incZpx _ => "INC"
  | .incAbsx _ => "INC"
  | .decZp _ => "DEC"
  | .decAbs _ => "DEC"
  | .decZpx _ => "DEC"
  | .decAbsx _ => "DEC"
  | .inx => "INX"
  | .iny => "INY"
  | .dex => "DEX"
  | .dey => "DEY"
  | .bcc _ => "BCC"
  | .bcs _ => "BCS"
  | .beq _ => "BEQ"
  | .bne _ => "BNE"
  | .bmi _ => "BMI"
  | .bpl _ => "BPL"
  | .bvc _ => "BVC"
  | .bvs _ => "BVS"
  | .jmpAbs _ => "JMP"
  | .jmpInd _ => "JMP"
  | .jsrAbs _ => "JSR"
  | .rts => "RTS"
  | .rti => "RTI"
  | .brk => "BRK"
  | .pha => "PHA"
  | .php => "PHP"
  | .pla => "PLA"
  | .plp => "PLP"
  | .clc => "CLC"
  | .sec => "SEC"
  | .cli => "CLI"
  | .sei => "SEI"
  | .cld => "CLD"
  | .sed => "SED"
  | .clv => "CLV"
  | .nop => "NOP"
  | .unopZp04 _ => "*NOP"
  | .unopAbs0C _ => "*NOP"
  | .unopZpx14 _ => "*NOP"
  | .unopImp1A => "*NOP"
  | .unopAbsx1C _ => "*NOP"
  | .unopZpx34 _ => "*NOP"
  | .unopImp3A => "*NOP"
  | .unopAbsx3C _ => "*NOP"
  | .unopZp44 _ => "*NOP"
  | .unopZpx54 _ => "*NOP"
  | .unopImp5A => "*NOP"
  | .unopAbsx5C _ => "*NOP"
  | .unopZp64 _ => "*NOP"
  | .unopZpx74 _ => "*NOP"
  | .unopImp7A => "*NOP"
  | .unopAbsx7C _ => "*NOP"
  | .unopImm80 _ => "*NOP"
  | .unopImm82 _ => "*NOP"
  | .unopImm89 _ => "*NOP"
  | .unopImmC2 _ => "*NOP"
  | .unopZpxD4 _ => "*NOP"
  | .unopImpDA => "*NOP"
  | .unopAbsxDC _ => "*NOP"
  | .unopImmE2 _ => "*NOP"
  | .unopZpxF4 _ => "*NOP"
  | .unopImpFA => "*NOP"
  | .unopAbsxFC _ => "*NOP"
  | .laxIndx _ => "*LAX"
  | .laxZp _ => "*LAX"
  | .laxAbs _ => "*LAX"
  | .laxIndy _ => "*LAX"
  | .laxZpy _ => "*LAX"
  | .laxAbsy _ => "*LAX"
  | .saxIndx _ => "*SAX"
  | .saxZp _ => "*SAX"
  | .saxAbs _ => "*SAX"
  | .saxZpy _ => "*SAX"
  | .usbcImm _ => "*SBC"
  | .dcpIndx _ => "*DCP"
  | .dcpZp _ => "*DCP"
  | .dcpAbs _ => "*DCP"
  | .dcpIndy _ => "*DCP"
  | .dcpZpx _ => "*DCP"
  | .dcpAbsy _ => "*DCP"
  | .dcpAbsx _ => "*DCP"
  | .isbIndx _ => "*ISB"
  | .isbZp _ => "*ISB"
  | .isbAbs _ => "*ISB"
  | .isbIndy _ => "*ISB"
  | .isbZpx _ => "*ISB"
  | .isbAbsy _ => "*ISB"
  | .isbAbsx _ => "*ISB"
  | .sloIndx _ => "*SLO"
  | .sloZp _ => "*SLO"
  | .sloAbs _ => "*SLO"
  | .sloIndy _ => "*SLO"
  | .sloZpx _ => "*SLO"
  | .sloAbsy _ => "*SLO"
  | .sloAbsx _ => "*SLO"
  | .rlaIndx _ => "*RLA"
  | .rlaZp _ => "*RLA"
  | .rlaAbs _ => "*RLA"
  | .rlaIndy _ => "*RLA"
  | .rlaZpx _ => "*RLA"
  | .rlaAbsy _ => "*RLA"
  | .rlaAbsx _ => "*RLA"
  | .sreIndx _ => "*SRE"
  | .sreZp _ => "*SRE"
  | .sreAbs _ => "*SRE"
  | .sreIndy _ => "*SRE"
  | .sreZpx _ => "*SRE"
  | .sreAbsy _ => "*SRE"
  | .sreAbsx _ => "*SRE"
  | .rraIndx _ => "*RRA"
  | .rraZp _ => "*RRA"
  | .rraAbs _ => "*RRA"
  | .rraIndy _ => "*RRA"
  | .rraZpx _ => "*RRA"
  | .rraAbsy _ => "*RRA"
  | .rraAbsx _ => "*RRA"

/-- Whether the instruction is one of the 80 unofficial rows (rules R126, R320). -/
def Instr.isUnofficial : Instr → Bool
  | .ldaIndx _ => false
  | .ldaZp _ => false
  | .ldaImm _ => false
  | .ldaAbs _ => false
  | .ldaIndy _ => false
  | .ldaZpx _ => false
  | .ldaAbsy _ => false
  | .ldaAbsx _ => false
  | .ldxImm _ => false
  | .ldxZp _ => false
  | .ldxAbs _ => false
  | .ldxZpy _ => false
  | .ldxAbsy _ => false
  | .ldyImm _ => false
  | .ldyZp _ => false
  | .ldyAbs _ => false
  | .ldyZpx _ => false
  | .ldyAbsx _ => false
  | .staIndx _ => false
  | .staZp _ => false
  | .staAbs _ => false
  | .staIndy _ => false
  | .staZpx _ => false
  | .staAbsy _ => false
  | .staAbsx _ => false
  | .stxZp _ => false
  | .stxAbs _ => false
  | .stxZpy _ => false
  | .styZp _ => false
  | .styAbs _ => false
  | .styZpx _ => false
  | .tax => false
  | .tay => false
  | .txa => false
  | .tya => false
  | .tsx => false
  | .txs => false
  | .adcIndx _ => false
  | .adcZp _ => false
  | .adcImm _ => false
  | .adcAbs _ => false
  | .adcIndy _ => false
  | .adcZpx _ => false
  | .adcAbsy _ => false
  | .adcAbsx _ => false
  | .sbcIndx _ => false
  | .sbcZp _ => false
  | .sbcImm _ => false
  | .sbcAbs _ => false
  | .sbcIndy _ => false
  | .sbcZpx _ => false
  | .sbcAbsy _ => false
  | .sbcAbsx _ => false
  | .andIndx _ => false
  | .andZp _ => false
  | .andImm _ => false
  | .andAbs _ => false
  | .andIndy _ => false
  | .andZpx _ => false
  | .andAbsy _ => false
  | .andAbsx _ => false
  | .oraIndx _ => false
  | .oraZp _ => false
  | .oraImm _ => false
  | .oraAbs _ => false
  | .oraIndy _ => false
  | .oraZpx _ => false
  | .oraAbsy _ => false
  | .oraAbsx _ => false
  | .eorIndx _ => false
  | .eorZp _ => false
  | .eorImm _ => false
  | .eorAbs _ => false
  | .eorIndy _ => false
  | .eorZpx _ => false
  | .eorAbsy _ => false
  | .eorAbsx _ => false
  | .cmpIndx _ => false
  | .cmpZp _ => false
  | .cmpImm _ => false
  | .cmpAbs _ => false
  | .cmpIndy _ => false
  | .cmpZpx _ => false
  | .cmpAbsy _ => false
  | .cmpAbsx _ => false
  | .cpxImm _ => false
  | .cpxZp _ => false
  | .cpxAbs _ => false
  | .cpyImm _ => false
  | .cpyZp _ => false
  | .cpyAbs _ => false
  | .bitZp _ => false
  | .bitAbs _ => false
  | .aslZp _ => false
  | .aslAcc => false
  | .aslAbs _ => false
  | .aslZpx _ => false
  | .aslAbsx _ => false
  | .lsrZp _ => false
  | .lsrAcc => false
  | .lsrAbs _ => false
  | .lsrZpx _ => false
  | .lsrAbsx _ => false
  | .rolZp _ => false
  | .rolAcc => false
  | .rolAbs _ => false
  | .rolZpx _ => false
  | .rolAbsx _ => false
  | .rorZp _ => false
  | .rorAcc => false
  | .rorAbs _ => false
  | .rorZpx _ => false
  | .rorAbsx _ => false
  | .incZp _ => false
  | .incAbs _ => false
  | .incZpx _ => false
  | .incAbsx _ => false
  | .decZp _ => false
  | .decAbs _ => false
  | .decZpx _ => false
  | .decAbsx _ => false
  | .inx => false
  | .iny => false
  | .dex => false
  | .dey => false
  | .bcc _ => false
  | .bcs _ => false
  | .beq _ => false
  | .bne _ => false
  | .bmi _ => false
  | .bpl _ => false
  | .bvc _ => false
  | .bvs _ => false
  | .jmpAbs _ => false
  | .jmpInd _ => false
  | .jsrAbs _ => false
  | .rts => false
  | .rti => false
  | .brk => false
  | .pha => false
  | .php => false
  | .pla => false
  | .plp => false
  | .clc => false
  | .sec => false
  | .cli => false
  | .sei => false
  | .cld => false
  | .sed => false
  | .clv => false
  | .nop => false
  | .unopZp04 _ => true
  | .unopAbs0C _ => true
  | .unopZpx14 _ => true
  | .unopImp1A => true
  | .unopAbsx1C _ => true
  | .unopZpx34 _ => true
  | .unopImp3A => true
  | .unopAbsx3C _ => true
  | .unopZp44 _ => true
  | .unopZpx54 _ => true
  | .unopImp5A => true
  | .unopAbsx5C _ => true
  | .unopZp64 _ => true
  | .unopZpx74 _ => true
  | .unopImp7A => true
  | .unopAbsx7C _ => true
  | .unopImm80 _ => true
  | .unopImm82 _ => true
  | .unopImm89 _ => true
  | .unopImmC2 _ => true
  | .unopZpxD4 _ => true
  | .unopImpDA => true
  | .unopAbsxDC _ => true
  | .unopImmE2 _ => true
  | .unopZpxF4 _ => true
  | .unopImpFA => true
  | .unopAbsxFC _ => true
  | .laxIndx _ => true
  | .laxZp _ => true
  | .laxAbs _ => true
  | .laxIndy _ => true
  | .laxZpy _ => true
  | .laxAbsy _ => true
  | .saxIndx _ => true
  | .saxZp _ => true
  | .saxAbs _ => true
  | .saxZpy _ => true
  | .usbcImm _ => true
  | .dcpIndx _ => true
  | .dcpZp _ => true
  | .dcpAbs _ => true
  | .dcpIndy _ => true
  | .dcpZpx _ => true
  | .dcpAbsy _ => true
  | .dcpAbsx _ => true
  | .isbIndx _ => true
  | .isbZp _ => true
  | .isbAbs _ => true
  | .isbIndy _ => true
  | .isbZpx _ => true
  | .isbAbsy _ => true
  | .isbAbsx _ => true
  | .sloIndx _ => true
  | .sloZp _ => true
  | .sloAbs _ => true
  | .sloIndy _ => true
  | .sloZpx _ => true
  | .sloAbsy _ => true
  | .sloAbsx _ => true
  | .rlaIndx _ => true
  | .rlaZp _ => true
  | .rlaAbs _ => true
  | .rlaIndy _ => true
  | .rlaZpx _ => true
  | .rlaAbsy _ => true
  | .rlaAbsx _ => true
  | .sreIndx _ => true
  | .sreZp _ => true
  | .sreAbs _ => true
  | .sreIndy _ => true
  | .sreZpx _ => true
  | .sreAbsy _ => true
  | .sreAbsx _ => true
  | .rraIndx _ => true
  | .rraZp _ => true
  | .rraAbs _ => true
  | .rraIndy _ => true
  | .rraZpx _ => true
  | .rraAbsy _ => true
  | .rraAbsx _ => true

/-- The bytes of an instruction whose bits are `w` as spec/opcode_table.json numbers them: the first byte is bits
7-0, and every bit from `nbits` on is 0. -/
def tableBytes (nbits w : Nat) : List Byte :=
  let w := w % 2 ^ nbits
  [BitVec.ofNat 8 w, BitVec.ofNat 8 (w / 2 ^ 8), BitVec.ofNat 8 (w / 2 ^ 16)]

/-- The instruction the decoder reads from those bytes, with every row of the table mapped (rule R320;
DESIGN CHOICE, safe: log entry 2). -/
def decodeTableWord (nbits w : Nat) : Option Instr :=
  match decode .nestest (tableBytes nbits w) with
  | .ok (i, _) => some i
  | .error _ => none

end Sys2Proof
end

