-- ==== Sys2Proof/Machine/Params.lean ====
section
/-! DEFINITION. Machine/Params.lean: the defaults of the parameters of rule R13. -/

namespace Sys2Proof.Machine

/-- The parameters at the defaults rule R13 names. -/
def defaultParams : Params where
  unofficial := .none
  intPushB := true
  oamDmaStall := 0
  ioReadValue := 0x00
  controllerReadUpper := 0
  ppuOpenBus := 0x00
  oddFrameSkip := .always
  nmiOnCtrlEnable := false

end Sys2Proof.Machine
end

