-- ==== Sys2Proof/Machine/State.lean ====
section
/-! DEFINITION. Machine/State.lean: every piece of state the spec gives the machine (rules R30-R65), as plain data,
the reasons a step can stop, and the machine right after reset (rules R530-R533). -/

namespace Sys2Proof.Machine

/-- One backing store: (offset, byte) pairs, offsets strictly rising, no entry equal to what an unlisted offset reads
as (`Memory.unlisted`, Machine/Store.lean). -/
abbrev Memory := List Host.Cell

/-- One entry of the frame buffer: the two arguments rule R435 gives to `SYSTEM_PALETTE` (DESIGN CHOICE, safe: log
entry 5). -/
structure Pixel where
  index : BitVec 6
  emphasis : BitVec 3
  deriving DecidableEq, Repr

/-- The frame buffer (rule R61): rows by y, entries by x, both strictly FALLING; an entry that is not listed has not
been written since power-on. -/
abbrev Frame := List (Nat × List (Nat × Pixel))

/-- The processor (rules R30-R44). -/
structure Cpu where
  a : Byte
  x : Byte
  y : Byte
  sp : Byte
  pc : Word
  /-- carry -/
  c : Bool
  /-- zero -/
  z : Bool
  /-- interrupt disable -/
  i : Bool
  /-- decimal -/
  d : Bool
  /-- break -/
  b : Bool
  /-- overflow -/
  v : Bool
  /-- negative -/
  n : Bool
  /-- processor cycles since power-on (rule R44) -/
  cycles : Nat
  deriving DecidableEq, Repr

/-- One entry of secondary OAM (rule R54). -/
structure SpriteEntry where
  y : Byte
  tile : Byte
  attr : Byte
  x : Byte
  isSprite0 : Bool
  deriving DecidableEq, Repr

/-- One sprite output unit (rule R55). -/
structure SpriteUnit where
  x : Byte
  patternLo : Byte
  patternHi : Byte
  palette : BitVec 2
  behindBg : Bool
  isSprite0 : Bool
  deriving DecidableEq, Repr

/-- The picture engine (rules R46-R58, R61). -/
structure Ppu where
  ctrl : Byte
  mask : Byte
  vblank : Bool
  sprite0Hit : Bool
  spriteOverflow : Bool
  oamAddr : Byte
  /-- internal VRAM address -/
  v : BitVec 15
  /-- temporary address -/
  t : BitVec 15
  /-- fine-x scroll -/
  x : BitVec 3
  /-- write toggle -/
  w : Bool
  readBuffer : Byte
  scanline : Nat
  dot : Nat
  oddFrame : Bool
  bgLo : BitVec 16
  bgHi : BitVec 16
  atLo : Byte
  atHi : Byte
  atLatchLo : BitVec 1
  atLatchHi : BitVec 1
  ntLatch : Byte
  atBits : BitVec 2
  ptLoLatch : Byte
  ptHiLatch : Byte
  secondary : List SpriteEntry
  units : List SpriteUnit
  oam : Memory
  palette : Memory
  nametable : Memory
  frame : Frame
  /-- the model's own: calls of `PpuTick` since power-on, so that rule R463 can be stated (DESIGN CHOICE, safe:
  log entry 8) -/
  ticks : Nat
  deriving DecidableEq, Repr

/-- The cartridge inside the machine, once rule R470 has accepted it (rule R60). No step changes it
(DESIGN CHOICE, safe: log entry 1). -/
structure Cartridge where
  prg : Memory
  prgSize : PrgSize
  chr : Memory
  mirroring : Mirroring
  deriving DecidableEq, Repr

/-- The host's side of the interactions of rule R471, as the model's own plain data: what the host will answer, and
what the block has sent it (DESIGN CHOICE, safe: log entries 6, 8 and 9). -/
structure HostPort where
  /-- the host's answers to the next controller reads; when it is empty the answer is `Config.controllerBit` -/
  controllerAnswers : List (BitVec 1)
  /-- controller reads made so far, the argument of the free value -/
  controllerReads : Nat
  /-- strobe bits sent to the controller, newest first -/
  strobes : List (BitVec 1)
  /-- `irq_line` at the next interrupt checks, one level a check; when it is empty the line is low -/
  irqLevels : List Bool
  /-- frames handed over -/
  framesDone : Nat
  /-- the copy handed over last -/
  presented : Frame
  deriving DecidableEq, Repr

/-- What a fatal `Unimplemented` access touched (rule R495). -/
inductive UnimplementedArea where
  /-- CPU read or write of 0x4020-0x5FFF (rule R78) -/
  | expansion
  /-- CPU write of 0x8000-0xFFFF, "unimplemented mapper" (rule R80) -/
  | programRom
  /-- picture-side write below 0x2000, "write to pattern data" (rule R92) -/
  | patternData
  deriving DecidableEq, Repr

/-- The field of the cartridge record that rule R470 refuses. -/
inductive RomField where
  | mapper
  | prg
  | chr
  deriving DecidableEq, Repr

/-- `Fatal(kind, info)` of rule R495. -/
inductive Fatal where
  /-- Category (a). Raised by `load` only (rule R470), before any state exists; safe: the spec's own refusal. -/
  | romFormat (field : RomField)
  /-- Category (b). Raised by nothing: rule R81 shows it unreachable; safe (DEDUCED, log entry 13). -/
  | addressViolation (a : Nat)
  /-- Category (c). Raised by the CPU bus and by a 0x2007 write (rules R78, R80, R92); `value` is the byte of a write.
  Safe: the spec's own fault. -/
  | unimplemented (area : UnimplementedArea) (a : Nat) (value : Option Byte)
  /-- Category (d). Raised by the opcode fetch (rules R123, R127); safe: the spec's own fault. -/
  | unmappedOpcode (op : Byte) (pc : Word)
  deriving DecidableEq, Repr

/-- The whole machine (rule R65), with its configuration and the host's side. -/
structure State where
  cpu : Cpu
  ppu : Ppu
  /-- work RAM, offsets 0-2047 (rule R59) -/
  wram : Memory
  /-- static RAM, offsets 0-8191 (rule R59) -/
  sram : Memory
  nmiPending : Bool
  fault : Option Fatal
  /-- configuration: the cartridge (rule R60) -/
  cart : Cartridge
  /-- configuration: the parameters (rule R13) -/
  params : Params
  host : HostPort
  deriving DecidableEq, Repr

/-- Why a step ends in a fault. -/
inductive Fault where
  /-- A `Fatal` was raised in this step (rule R495), by the bus, the data port or the opcode fetch. `final` is the
  state the spec leaves: every write before the fatal statement kept, `fault` set, the instruction's cycles and ticks
  not added. Safe: the spec ends the run here (DEDUCED, log entry 12). -/
  | fatal (reason : Fatal) (final : State)
  /-- Raised by `step` on a state whose `fault` is already set: rule R462 requires `fault == none`, and no step leaves
  the faulted state (rule R495). Safe. -/
  | halted (reason : Fatal)
  deriving DecidableEq, Repr

/-- Why a step is refused. -/
inductive Refusal where
  /-- The instruction has no meaning yet; only a refused arm of `exec` raises it (there is none). Safe. -/
  | notModelled (mnemonic : String)
  deriving DecidableEq, Repr

/-- The machine right after reset (rules R530-R533): every element at the value of rule R531, cycles 7, the picture
engine 21 dots on, having written the backdrop to pixels 0-19 of scanline 0. No program is loaded: the cartridge's
bytes are all unlisted, so the reset vector reads 0x0000 (DESIGN CHOICE, unsafe: log entries 3 and 4).
`powerOn` (Machine/Boot.lean) computes this state, and `reset_eq_powerOn` (Laws/Boot.lean) proves that it does. -/
def State.reset : State where
  cpu :=
    { a := 0x00, x := 0x00, y := 0x00, sp := 0xFD, pc := 0x0000,
      c := false, z := false, i := true, d := false, b := false, v := false, n := false, cycles := 7 }
  ppu :=
    { ctrl := 0x00, mask := 0x00, vblank := false, sprite0Hit := false, spriteOverflow := false, oamAddr := 0x00,
      v := 0, t := 0, x := 0, w := false, readBuffer := 0x00, scanline := 0, dot := 21, oddFrame := false,
      bgLo := 0, bgHi := 0, atLo := 0, atHi := 0, atLatchLo := 0, atLatchHi := 0,
      ntLatch := 0, atBits := 0, ptLoLatch := 0, ptHiLatch := 0, secondary := [], units := [],
      oam := [], palette := [], nametable := [],
      frame := [(0, (List.range 20).reverse.map fun x => (x, { index := 0, emphasis := 0 }))], ticks := 21 }
  wram := []
  sram := []
  nmiPending := false
  fault := none
  cart := { prg := [], prgSize := .k32, chr := [], mirroring := .horizontal }
  params := defaultParams
  host :=
    { controllerAnswers := [], controllerReads := 0, strobes := [], irqLevels := [], framesDone := 0,
      presented := [] }

end Sys2Proof.Machine
end

