-- ==== Sys2Proof/Machine/Store.lean ====
section
/-! DEFINITION. Machine/Store.lean: reading and writing one backing store, the frame buffer, the named updates of
State, and the result type of every operation that can raise a fatal condition. -/

namespace Sys2Proof.Machine

/-- What an offset that is not listed reads as: rule R531's default `RAM_POWER_ON = zero`. For cartridge bytes it is
a byte the loaded image holds as 0x00 (DESIGN CHOICE, unsafe for runs from reset: log entry 4). -/
def Memory.unlisted : Byte := 0x00

/-- The byte at offset `k`. -/
def Memory.read : Memory → Nat → Byte
  | [], _ => Memory.unlisted
  | (k', b) :: m, k => if k' = k then b else Memory.read m k

/-- Put an entry before a store whose offsets are all larger, unless it says what an unlisted offset reads as. -/
def Memory.cons (k : Nat) (b : Byte) (m : Memory) : Memory :=
  if b = Memory.unlisted then m else (k, b) :: m

/-- Write the byte at offset `k`, keeping the canonical form. -/
def Memory.write : Memory → Nat → Byte → Memory
  | [], k, b => Memory.cons k b []
  | (k', b') :: m, k, b =>
    if k < k' then Memory.cons k b ((k', b') :: m)
    else if k = k' then Memory.cons k b m
    else (k', b') :: Memory.write m k b

/-- All offsets are at least `lo`, strictly rising and below `size`, and no entry says what an unlisted offset
reads as. -/
def Memory.wfFrom (size : Nat) : Nat → Memory → Bool
  | _, [] => true
  | lo, (k, b) :: m => decide (lo ≤ k) && decide (k < size) && (b != Memory.unlisted) && Memory.wfFrom size (k + 1) m

/-- The canonical form of a store of `size` bytes. -/
def Memory.wf (size : Nat) (m : Memory) : Bool := Memory.wfFrom size 0 m

/-- The store that holds `bytes` from offset `k` on (a loaded ROM image, rule R461). -/
def Memory.ofBytes : Nat → List Byte → Memory
  | _, [] => []
  | k, b :: bs => Memory.cons k b (Memory.ofBytes (k + 1) bs)

/-- The store with the cells of a drawn image written one by one (rule R531). -/
def Memory.ofCells (size : Nat) (cells : List Host.Cell) : Memory :=
  cells.foldl (fun m c => if c.1 < size then m.write c.1 c.2 else m) []

/-- The entry at key `k` of a list with strictly falling keys. -/
def fallingGet {α : Type} : List (Nat × α) → Nat → Option α
  | [], _ => none
  | (k', a) :: m, k => if k' = k then some a else fallingGet m k

/-- Set the entry at key `k`, keeping the keys strictly falling. -/
def fallingSet {α : Type} : List (Nat × α) → Nat → α → List (Nat × α)
  | [], k, a => [(k, a)]
  | (k', a') :: m, k, a =>
    if k' < k then (k, a) :: (k', a') :: m
    else if k' = k then (k, a) :: m
    else (k', a') :: fallingSet m k a

/-- `frame[y][x]` as the compositor left it; `none` where it has not written since power-on. -/
def frameGet (f : Frame) (y x : Nat) : Option Pixel :=
  (fallingGet f y).bind fun row => fallingGet row x

/-- `frame[y][x] <- p` (rule R430). -/
def frameSet (f : Frame) (y x : Nat) (p : Pixel) : Frame :=
  fallingSet f y (fallingSet ((fallingGet f y).getD []) x p)

/-- The colour triple at `frame[y][x]` (rules R61 and R435): the palette is the spec's open parameter, and an entry
never written is a free value. -/
def frameRgb (f : Frame) (y x : Nat) : Rgb :=
  match frameGet f y x with
  | some p => Config.systemPalette p.index p.emphasis
  | none => Config.framePowerOn y x

/-- The result of an operation that may raise a fatal condition (rules R17, R495): a value and the next state, or the
condition and the state at the fatal statement. -/
inductive Res (α : Type) where
  | ok (a : α) (s : State)
  | fatal (reason : Fatal) (s : State)
  deriving DecidableEq, Repr

/-- One statement after another (rule R19): the second does not run when the first is fatal. -/
def Res.bind {α β : Type} (r : Res α) (k : α → State → Res β) : Res β :=
  match r with
  | .ok a s => k a s
  | .fatal f s => .fatal f s

/-- The same result, but where it is fatal the state at the fatal statement is `g` of the state the statement left. -/
def Res.faultIn {α : Type} (r : Res α) (g : State → State) : Res α :=
  match r with
  | .ok a s => .ok a s
  | .fatal f s => .fatal f (g s)

/-- The three outcomes the host knows; a fatal condition sets `fault` (rule R495). -/
def Res.outcome {α : Type} (r : Res α) : Host.Outcome State Fault Refusal :=
  match r with
  | .ok _ s => .next s
  | .fatal f s => .fault (.fatal f { s with fault := some f })

/-- `A <- v` -/
def State.setA (s : State) (v : Byte) : State := { s with cpu := { s.cpu with a := v } }

/-- `X <- v` -/
def State.setX (s : State) (v : Byte) : State := { s with cpu := { s.cpu with x := v } }

/-- `Y <- v` -/
def State.setY (s : State) (v : Byte) : State := { s with cpu := { s.cpu with y := v } }

/-- `SP <- v` -/
def State.setSp (s : State) (v : Byte) : State := { s with cpu := { s.cpu with sp := v } }

/-- `PC <- v` -/
def State.setPc (s : State) (v : Word) : State := { s with cpu := { s.cpu with pc := v } }

/-- `C <- f` -/
def State.setC (s : State) (f : Bool) : State := { s with cpu := { s.cpu with c := f } }

/-- `Z <- f` -/
def State.setZ (s : State) (f : Bool) : State := { s with cpu := { s.cpu with z := f } }

/-- `I <- f` -/
def State.setI (s : State) (f : Bool) : State := { s with cpu := { s.cpu with i := f } }

/-- `D <- f` -/
def State.setD (s : State) (f : Bool) : State := { s with cpu := { s.cpu with d := f } }

/-- `B <- f` -/
def State.setB (s : State) (f : Bool) : State := { s with cpu := { s.cpu with b := f } }

/-- `V <- f` -/
def State.setV (s : State) (f : Bool) : State := { s with cpu := { s.cpu with v := f } }

/-- `N <- f` -/
def State.setN (s : State) (f : Bool) : State := { s with cpu := { s.cpu with n := f } }

/-- `cycles <- cycles + k` (rule R44) -/
def State.addCycles (s : State) (k : Nat) : State := { s with cpu := { s.cpu with cycles := s.cpu.cycles + k } }

/-- Replace the picture engine. -/
def State.setPpu (s : State) (p : Ppu) : State := { s with ppu := p }

/-- Replace work RAM. -/
def State.setWram (s : State) (m : Memory) : State := { s with wram := m }

/-- Replace static RAM. -/
def State.setSram (s : State) (m : Memory) : State := { s with sram := m }

/-- `nmi_pending <- f` (rule R62) -/
def State.setNmiPending (s : State) (f : Bool) : State := { s with nmiPending := f }

/-- Replace the host's side (rule R471). -/
def State.setHost (s : State) (h : HostPort) : State := { s with host := h }

end Sys2Proof.Machine
end

