-- ==== Sys2Proof/Machine/Flags.lean ====
section
/-! DEFINITION. Machine/Flags.lean: the packed status byte and every flag computation of the spec
(rules R36-R43, R210-R217, R240-R243). -/

namespace Sys2Proof.Machine

/-- The packed status byte `P` (rule R37): N V 1 B D I Z C from bit 7 down. -/
def packP (c : Cpu) : Byte :=
  BitVec.ofBool c.n ++ BitVec.ofBool c.v ++ 1#1 ++ BitVec.ofBool c.b
    ++ BitVec.ofBool c.d ++ BitVec.ofBool c.i ++ BitVec.ofBool c.z ++ BitVec.ofBool c.c

/-- `P <- p` (rule R38): bits 4 and 5 are discarded and B is written 0. -/
def unpackP (s : State) (p : Byte) : State :=
  { s with cpu := { s.cpu with
    c := p.getLsbD 0, z := p.getLsbD 1, i := p.getLsbD 2, d := p.getLsbD 3,
    v := p.getLsbD 6, n := p.getLsbD 7, b := false } }

/-- `SetZN(v)` (rule R40). -/
def setZN (s : State) (v : Byte) : State := (s.setZ (v == 0)).setN (v.getLsbD 7)

/-- `AddWithCarry(m)` (rule R211). -/
def addWithCarry (s : State) (m : Byte) : State :=
  let sum := s.cpu.a.toNat + m.toNat + s.cpu.c.toNat
  let r := BitVec.ofNat 8 sum
  let overflow := ((s.cpu.a ^^^ r) &&& (m ^^^ r) &&& 0x80#8) != 0
  setZN (((s.setC (decide (0xFF < sum))).setV overflow).setA r) r

/-- `Compare(r, m)` (rule R217). -/
def compare (s : State) (r m : Byte) : State :=
  ((s.setC (decide (m.toNat ≤ r.toNat))).setZ (r == m)).setN ((r - m).getLsbD 7)

/-- BIT's flags (rule R221). -/
def bitTest (s : State) (m : Byte) : State :=
  ((s.setZ ((s.cpu.a &&& m) == 0)).setV (m.getLsbD 6)).setN (m.getLsbD 7)

/-- A shift or rotate: the carry out and the result, from the carry in and the operand. -/
abbrev ShiftFn := Bool → Byte → Bool × Byte

/-- ASL (rule R240). -/
def shiftAsl : ShiftFn := fun _ m => (m.getLsbD 7, m <<< 1)

/-- LSR (rule R241). -/
def shiftLsr : ShiftFn := fun _ m => (m.getLsbD 0, m >>> 1)

/-- ROL (rule R242). -/
def shiftRol : ShiftFn := fun c m => (m.getLsbD 7, (m <<< 1) ||| (BitVec.ofBool c).setWidth 8)

/-- ROR (rule R243). -/
def shiftRor : ShiftFn := fun c m => (m.getLsbD 0, (m >>> 1) ||| ((BitVec.ofBool c).setWidth 8 <<< 7))

end Sys2Proof.Machine
end

