-- ==== Sys2Proof/Machine/PpuBus.lean ====
section
/-! DEFINITION. Machine/PpuBus.lean: the picture-side bus router (rules R91-R97). -/

namespace Sys2Proof.Machine

/-- `PalIndex` (rule R93). -/
def palIndex (a : Nat) : Nat :=
  let i := a % 0x20
  if i = 0x10 ∨ i = 0x14 ∨ i = 0x18 ∨ i = 0x1C then i - 0x10 else i

/-- `NtMirror` (rule R94; conflict C2 decides the horizontal form), for an address in 0x2000-0x2FFF. -/
def ntMirror (m : Mirroring) (a : Nat) : Nat :=
  match m with
  | .horizontal => 0x2000 + a % 0x400 + (if a / 0x800 % 2 = 1 then 0x400 else 0)
  | .vertical => a % 0x800 + 0x2000
  | .fourScreen => a

/-- The offset in name-table RAM of a picture-side address in 0x2000-0x3EFF: 0x3000-0x3EFF is the alias of
0x2000-0x2EFF (rules R91, R92). -/
def nametableOffset (m : Mirroring) (a : Nat) : Nat :=
  ntMirror m (if 0x3000 ≤ a then a - 0x1000 else a) - 0x2000

/-- `PpuRead(a)` for any address (rule R91): no side effect, and it never faults. -/
def ppuRead (s : State) (a : Nat) : Byte :=
  let a := a % 0x4000
  if 0x3F00 ≤ a then s.ppu.palette.read (palIndex a)
  else if 0x2000 ≤ a then s.ppu.nametable.read (nametableOffset s.cart.mirroring a)
  else s.cart.chr.read a

/-- `PpuWrite(a, val)` (rule R92); a write below 0x2000 is fatal. -/
def ppuWrite (s : State) (a : Nat) (val : Byte) : Res Unit :=
  let a := a % 0x4000
  if 0x3F00 ≤ a then .ok () (s.setPpu { s.ppu with palette := s.ppu.palette.write (palIndex a) val })
  else if 0x2000 ≤ a then
    .ok () (s.setPpu { s.ppu with
      nametable := s.ppu.nametable.write (nametableOffset s.cart.mirroring a) val })
  else .fatal (.unimplemented .patternData a (some val)) s

/-- `n` consecutive picture-side bytes from `base`. -/
def ppuReadBlock (s : State) (base n : Nat) : List Byte :=
  (List.range n).map fun i => ppuRead s (base + i)

/-- `read_name_table(base)` (rule R97). -/
def readNameTable (s : State) (base : Nat) : List Byte := ppuReadBlock s base 1024

/-- `read_pattern_table(base)` (rule R97). -/
def readPatternTable (s : State) (base : Nat) : List Byte := ppuReadBlock s base 4096

end Sys2Proof.Machine
end

