-- ==== Sys2Proof/Machine/PpuRegs.lean ====
section
/-! DEFINITION. Machine/PpuRegs.lean: the picture engine's eight registers as the CPU reads and writes them
(rules R350-R369), by register index 0-7 (rule R350). -/

namespace Sys2Proof.Machine

/-- Rendering is enabled (rule R368). -/
def renderingEnabled (p : Ppu) : Bool := p.mask.getLsbD 3 || p.mask.getLsbD 4

/-- The data-port increment of `v` (rule R366), mod 0x8000 by the width of `v`. -/
def dataPortNext (p : Ppu) : BitVec 15 := p.v + (if p.ctrl.getLsbD 2 then 32 else 1)

/-- The status byte (rule R357). -/
def statusByte (s : State) : Byte :=
  BitVec.ofBool s.ppu.vblank ++ BitVec.ofBool s.ppu.sprite0Hit ++ BitVec.ofBool s.ppu.spriteOverflow
    ++ s.params.ppuOpenBus.setWidth 5

/-- Read of 0x2002 (rule R357). -/
def readStatus (s : State) : Byte × State :=
  (statusByte s, s.setPpu { s.ppu with vblank := false, w := false })

/-- Read of 0x2007 (rule R365). -/
def readData (s : State) : Byte × State :=
  let a := s.ppu.v.toNat % 0x4000
  if a < 0x3F00 then
    (s.ppu.readBuffer, s.setPpu { s.ppu with readBuffer := ppuRead s a, v := dataPortNext s.ppu })
  else
    (ppuRead s a, s.setPpu { s.ppu with readBuffer := ppuRead s (a - 0x1000), v := dataPortNext s.ppu })

/-- `PpuRegRead` (rule R351): the status, the sprite memory port and the data port; the write-only registers read as
`PPU_OPEN_BUS` without side effect (rule R367). -/
def ppuRegRead (s : State) (r : Nat) : Byte × State :=
  if r = 2 then readStatus s
  else if r = 4 then (s.ppu.oam.read s.ppu.oamAddr.toNat, s)
  else if r = 7 then readData s
  else (s.params.ppuOpenBus, s)

/-- Write to 0x2000 (rule R354). -/
def writeCtrl (s : State) (val : Byte) : State :=
  let late := s.params.nmiOnCtrlEnable && !s.ppu.ctrl.getLsbD 7 && val.getLsbD 7 && s.ppu.vblank
  (s.setPpu { s.ppu with
    ctrl := val,
    t := (s.ppu.t &&& ~~~0x0C00#15) ||| ((val &&& 0x03).setWidth 15 <<< 10) }).setNmiPending (s.nmiPending || late)

/-- Write to 0x2004 (rule R360). -/
def writeOamData (s : State) (val : Byte) : State :=
  s.setPpu { s.ppu with oam := s.ppu.oam.write s.ppu.oamAddr.toNat val, oamAddr := s.ppu.oamAddr + 1 }

/-- Write to 0x2005 (rule R362). -/
def writeScroll (s : State) (val : Byte) : State :=
  if s.ppu.w then
    s.setPpu { s.ppu with
      t := (s.ppu.t &&& ~~~0x73E0#15) ||| ((val &&& 0x07).setWidth 15 <<< 12) ||| ((val >>> 3).setWidth 15 <<< 5),
      w := false }
  else
    s.setPpu { s.ppu with
      t := (s.ppu.t &&& ~~~0x001F#15) ||| (val >>> 3).setWidth 15,
      x := val.setWidth 3,
      w := true }

/-- Write to 0x2006 (rule R363). -/
def writeAddr (s : State) (val : Byte) : State :=
  if s.ppu.w then
    let t := (s.ppu.t &&& 0x7F00) ||| val.setWidth 15
    s.setPpu { s.ppu with t := t, v := t, w := false }
  else
    s.setPpu { s.ppu with t := (s.ppu.t &&& 0x00FF) ||| ((val &&& 0x3F).setWidth 15 <<< 8), w := true }

/-- Write to 0x2007 (rule R364). -/
def writeData (s : State) (val : Byte) : Res Unit :=
  (ppuWrite s (s.ppu.v.toNat % 0x4000) val).bind fun _ s1 =>
    .ok () (s1.setPpu { s1.ppu with v := dataPortNext s1.ppu })

/-- `PpuRegWrite` (rule R352). -/
def ppuRegWrite (s : State) (r : Nat) (val : Byte) : Res Unit :=
  if r = 0 then .ok () (writeCtrl s val)
  else if r = 1 then .ok () (s.setPpu { s.ppu with mask := val })
  else if r = 2 then .ok () s
  else if r = 3 then .ok () (s.setPpu { s.ppu with oamAddr := val })
  else if r = 4 then .ok () (writeOamData s val)
  else if r = 5 then .ok () (writeScroll s val)
  else if r = 6 then .ok () (writeAddr s val)
  else writeData s val

end Sys2Proof.Machine
end

