-- ==== Sys2Proof/Machine/Ops.lean ====
section
/-! DEFINITION. Machine/Ops.lean: the CPU-side bus router with OAM DMA and the controller port (rules R71-R81), byte
order and stack (rules R82-R86), and taking and leaving an exception (rules R272, R273, R493). -/

namespace Sys2Proof.Machine

/-- `prg[(a - 0x8000) mod len(prg)]` (rule R80). -/
def prgRead (c : Cartridge) (a : Nat) : Byte := c.prg.read ((a - 0x8000) % c.prgSize.bytes)

/-- `controller.read()` (rules R76, R471): one bit, any bit (DESIGN CHOICE, safe: log entry 6). -/
def controllerRead (s : State) : BitVec 1 × State :=
  match s.host.controllerAnswers with
  | b :: rest =>
    (b, s.setHost { s.host with controllerAnswers := rest, controllerReads := s.host.controllerReads + 1 })
  | [] =>
    (Config.controllerBit s.host.controllerReads,
      s.setHost { s.host with controllerReads := s.host.controllerReads + 1 })

/-- `controller.write(bit)` (rules R76, R471). -/
def controllerWrite (s : State) (bit : BitVec 1) : State :=
  s.setHost { s.host with strobes := bit :: s.host.strobes }

/-- `MemRead(a, 1)` (rule R71), decoded from the highest range down. -/
def memRead (s : State) (a : Word) : Res Byte :=
  if 0x8000 ≤ a.toNat then .ok (prgRead s.cart a.toNat) s
  else if 0x6000 ≤ a.toNat then .ok (s.sram.read (a.toNat - 0x6000)) s
  else if 0x4020 ≤ a.toNat then .fatal (.unimplemented .expansion a.toNat none) s
  else if 0x4000 ≤ a.toNat then
    if a.toNat = 0x4016 then
      .ok (s.params.controllerReadUpper ++ (controllerRead s).1) (controllerRead s).2
    else .ok s.params.ioReadValue s
  else if 0x2000 ≤ a.toNat then .ok (ppuRegRead s (a.toNat % 8)).1 (ppuRegRead s (a.toNat % 8)).2
  else .ok (s.wram.read (a.toNat % 0x800)) s

/-- The copy loop of `OamDma` (rule R77): `n` bytes still to come, from `src` on, to sprite memory from `dst` on. -/
def oamDmaLoop : Nat → Word → Byte → State → Res Unit
  | 0, _, _, s => .ok () s
  | n + 1, src, dst, s =>
    (memRead s src).bind fun b s1 =>
      oamDmaLoop n (src + 1) (dst + 1) (s1.setPpu { s1.ppu with oam := s1.ppu.oam.write dst.toNat b })

/-- `OamDma(page)` (rule R77). The stall is part of the running instruction's cost (rules R44, R150), and it enters
`cycles` here: nothing of the instruction comes after the copy (DESIGN CHOICE, safe: log entry 7). -/
def oamDma (s : State) (page : Byte) : Res Unit :=
  (oamDmaLoop 256 (page ++ 0x00#8) s.ppu.oamAddr s).bind fun _ s1 => .ok () (s1.addCycles s1.params.oamDmaStall)

/-- `MemWrite(a, 1, val)` (rule R72), decoded from the highest range down. -/
def memWrite (s : State) (a : Word) (val : Byte) : Res Unit :=
  if 0x8000 ≤ a.toNat then .fatal (.unimplemented .programRom a.toNat (some val)) s
  else if 0x6000 ≤ a.toNat then .ok () (s.setSram (s.sram.write (a.toNat - 0x6000) val))
  else if 0x4020 ≤ a.toNat then .fatal (.unimplemented .expansion a.toNat (some val)) s
  else if 0x4000 ≤ a.toNat then
    if a.toNat = 0x4014 then oamDma s val
    else if a.toNat = 0x4016 then .ok () (controllerWrite s (val.setWidth 1))
    else .ok () s
  else if 0x2000 ≤ a.toNat then ppuRegWrite s (a.toNat % 8) val
  else .ok () (s.setWram (s.wram.write (a.toNat % 0x800) val))

/-- `MemRead16(a)`: low byte first, then the byte at a+1 mod 2^16 (rule R83). -/
def memRead16 (s : State) (a : Word) : Res Word :=
  (memRead s a).bind fun lo s1 => (memRead s1 (a + 1)).bind fun hi s2 => .ok (wordOf hi lo) s2

/-- The stack byte's address `0x0100 + SP` (rule R84). -/
def stackAddr (sp : Byte) : Word := 0x01#8 ++ sp

/-- `Push(v)` (rule R84). -/
def push (s : State) (v : Byte) : Res Unit :=
  (memWrite s (stackAddr s.cpu.sp) v).bind fun _ s1 => .ok () (s1.setSp (s1.cpu.sp - 1))

/-- `Pull()` (rule R84). -/
def pull (s : State) : Res Byte :=
  memRead (s.setSp (s.cpu.sp + 1)) (stackAddr (s.cpu.sp + 1))

/-- `Push16(v)`: high byte first (rule R85). -/
def push16 (s : State) (v : Word) : Res Unit :=
  (push s (hiByte v)).bind fun _ s1 => push s1 (loByte v)

/-- `Pull16()`: low byte first (rule R85). -/
def pull16 (s : State) : Res Word :=
  (pull s).bind fun lo s1 => (pull s1).bind fun hi s2 => .ok (wordOf hi lo) s2

/-- The vectors of rule R86. -/
def nmiVector : Word := 0xFFFA

/-- The reset vector (rules R86, R532). -/
def resetVector : Word := 0xFFFC

/-- The vector IRQ and BRK share (rules R86, R490). -/
def irqVector : Word := 0xFFFE

/-- Taking an exception, the sequence BRK and the interrupts share (rules R273, R493): push the return address high
byte first, push the status byte, set I, load PC from the vector. -/
def takeException (s : State) (ret : Word) (status : Byte) (vector : Word) : Res Unit :=
  (push16 s ret).bind fun _ s1 =>
    (push s1 status).bind fun _ s2 =>
      (memRead16 (s2.setI true) vector).bind fun target s3 => .ok () (s3.setPc target)

/-- The status byte BRK and PHP push: bits 4 and 5 set (rules R273, R291). -/
def pushedStatus (c : Cpu) : Byte := packP c ||| 0x10

/-- The status byte an interrupt pushes: bit 4 is `INT_PUSH_B`, bit 5 is set (rule R493). -/
def interruptStatus (s : State) : Byte :=
  (packP s.cpu &&& ~~~0x10#8) ||| ((BitVec.ofBool s.params.intPushB).setWidth 8 <<< 4) ||| 0x20

/-- `InterruptEntry(vector)` (rule R493): the saved PC is the next instruction's, and the entry costs 7 cycles. -/
def interruptEntry (s : State) (vector : Word) : Res Unit :=
  (takeException s s.cpu.pc (interruptStatus s) vector).bind fun _ s1 => .ok () (s1.addCycles 7)

/-- Returning from an exception (rule R272): P from the stack (rule R38), then PC, with no increment. -/
def returnFromException (s : State) : Res Unit :=
  (pull s).bind fun p s1 => (pull16 (unpackP s1 p)).bind fun target s2 => .ok () (s2.setPc target)

end Sys2Proof.Machine
end

