-- ==== Sys2Proof/Machine/Operands.lean ====
section
/-! DEFINITION. Machine/Operands.lean: the thirteen addressing modes (rules R151-R163), the operand accessors (rule
R166), and the instruction cycle around an operation (rule R150). An instruction's own operand bytes are read by the
fetch (Machine/Driver.lean), before the mode function's other reads, and reach the mode function as `Operand` data. -/

namespace Sys2Proof.Machine

/-- Where the operation finds its operand (rule R166). -/
inductive Target where
  | none
  | acc
  /-- the immediate byte, read by the fetch from its address `ea` (rule R153) -/
  | imm (ea : Word) (v : Byte)
  | mem (ea : Word)
  deriving DecidableEq, Repr

/-- What a mode function yields: the operand's place and `crossed` (rule R150). -/
structure Resolved where
  target : Target
  crossed : Bool
  deriving DecidableEq, Repr

/-- A zero-page address (rule R122). -/
def zeroPage (z : Byte) : Word := 0x00#8 ++ z

/-- An index register as an address offset. -/
def indexOf (r : Byte) : Word := 0x00#8 ++ r

/-- The displacement of a branch (rules R122, R163): `sext_16`. -/
def displacement (d : Byte) : Word := d.signExtend 16

/-- `ptr` with its low byte incremented inside its page (rule R160). -/
def nextInPage (ptr : Word) : Word := wordOf (hiByte ptr) (loByte ptr + 1)

/-- Whether two addresses lie on different pages (rules R158, R260). -/
def pageDiffers (a b : Word) : Bool := hiByte a != hiByte b

/-- Read the two bytes of a pointer at `ptr`, the high byte from the same page (rules R160-R162). -/
def readPointer (s : State) (ptr : Word) : Res Word :=
  (memRead s ptr).bind fun lo s1 => (memRead s1 (nextInPage ptr)).bind fun hi s2 => .ok (wordOf hi lo) s2

/-- The mode function's reads and effective address, before PC moves (rules R151-R163). -/
def effective (s : State) : Operand → Res Resolved
  | .imp => .ok { target := .none, crossed := false } s
  | .acc => .ok { target := .acc, crossed := false } s
  | .imm v => .ok { target := .imm (s.cpu.pc + 1) v, crossed := false } s
  | .zp z => .ok { target := .mem (zeroPage z), crossed := false } s
  | .zpx z => .ok { target := .mem (zeroPage (z + s.cpu.x)), crossed := false } s
  | .zpy z => .ok { target := .mem (zeroPage (z + s.cpu.y)), crossed := false } s
  | .abs a => .ok { target := .mem a, crossed := false } s
  | .absx a => .ok { target := .mem (a + indexOf s.cpu.x), crossed := pageDiffers a (a + indexOf s.cpu.x) } s
  | .absy a => .ok { target := .mem (a + indexOf s.cpu.y), crossed := pageDiffers a (a + indexOf s.cpu.y) } s
  | .ind a => (readPointer s a).bind fun ea s1 => .ok { target := .mem ea, crossed := false } s1
  | .indx z =>
    (readPointer s (zeroPage (z + s.cpu.x))).bind fun ea s1 => .ok { target := .mem ea, crossed := false } s1
  | .indy z =>
    (readPointer s (zeroPage z)).bind fun base s1 =>
      .ok { target := .mem (base + indexOf s1.cpu.y), crossed := pageDiffers base (base + indexOf s1.cpu.y) } s1
  | .rel d => .ok { target := .mem (s.cpu.pc + 2 + displacement d), crossed := false } s

/-- `entry.mode()` (rule R150): the effective address, and PC past the instruction. -/
def resolve (s : State) (o : Operand) : Res Resolved :=
  (effective s o).bind fun r s1 => .ok r (s1.setPc (s1.cpu.pc + BitVec.ofNat 16 o.length))

/-- The address a jump or branch uses (rules R157, R160, R163). -/
def Target.addr : Target → Word
  | .mem ea => ea
  | .imm ea _ => ea
  | .acc | .none => 0

/-- `Operand()` (rule R166). An implied instruction calls it never; it would read nothing (DESIGN CHOICE, safe: log
entry 16). -/
def readTarget (s : State) : Target → Res Byte
  | .acc => .ok s.cpu.a s
  | .imm _ v => .ok v s
  | .mem ea => memRead s ea
  | .none => .ok 0 s

/-- `StoreOperand(v)` (rule R166). -/
def writeTarget (s : State) (t : Target) (v : Byte) : Res Unit :=
  match t with
  | .acc => .ok () (s.setA v)
  | .imm ea _ => memWrite s ea v
  | .mem ea => memWrite s ea v
  | .none => .ok () s

/-- An operation (rule R150): it acts on its operand's place and answers `branch_extra`. -/
abbrev Operation := Target → State → Res Nat

/-- The state after rule R150: mode function, operation, account of cycles. -/
def cpuStep (base : Nat) (pagePenalty : Bool) (o : Operand) (op : Operation) (s : State) : Res Unit :=
  (resolve s o).bind fun r s1 =>
    (op r.target s1).bind fun extra s2 =>
      .ok () (s2.addCycles (base + (pagePenalty && r.crossed).toNat + extra))

/-- One instruction as the host sees it. `base` and `pagePenalty` are the instruction's row of rule R126. -/
def runInstr (base : Nat) (pagePenalty : Bool) (o : Operand) (op : Operation) (s : State) :
    Host.Outcome State Fault Refusal :=
  (cpuStep base pagePenalty o op s).outcome

end Sys2Proof.Machine
end

