-- ==== Sys2Proof/Machine/Arith.lean ====
section
/-! DEFINITION. Machine/Arith.lean: arithmetic, logic, compare and bit test (spec/42_arithmetic_logic.md). -/

namespace Sys2Proof.Machine

/-- ADC (rule R212). -/
def opAdc : Operation := fun t s => (readTarget s t).bind fun m s1 => .ok 0 (addWithCarry s1 m)

/-- SBC (rule R213): add the operand's ones complement with carry. -/
def opSbc : Operation := fun t s => (readTarget s t).bind fun m s1 => .ok 0 (addWithCarry s1 (m ^^^ 0xFF))

/-- A logical operation of A and the operand, into A (rules R214-R216). -/
def logicOp (f : Byte → Byte → Byte) : Operation := fun t s =>
  (readTarget s t).bind fun m s1 => .ok 0 (setZN (s1.setA (f s1.cpu.a m)) (f s1.cpu.a m))

/-- AND (rule R214). -/
def opAnd : Operation := logicOp fun a m => a &&& m

/-- ORA (rule R215). -/
def opOra : Operation := logicOp fun a m => a ||| m

/-- EOR (rule R216). -/
def opEor : Operation := logicOp fun a m => a ^^^ m

/-- CMP (rule R218). -/
def opCmp : Operation := fun t s => (readTarget s t).bind fun m s1 => .ok 0 (compare s1 s1.cpu.a m)

/-- CPX (rule R219). -/
def opCpx : Operation := fun t s => (readTarget s t).bind fun m s1 => .ok 0 (compare s1 s1.cpu.x m)

/-- CPY (rule R220). -/
def opCpy : Operation := fun t s => (readTarget s t).bind fun m s1 => .ok 0 (compare s1 s1.cpu.y m)

/-- BIT (rule R221). -/
def opBit : Operation := fun t s => (readTarget s t).bind fun m s1 => .ok 0 (bitTest s1 m)

/-- ADC, 0x61 (indirect,X) (rules R212, R126). -/
def execAdcIndx (z : Byte) (s : State) : Host.Outcome State Fault Refusal :=
  runInstr 6 false (.indx z) opAdc s

/-- ADC, 0x65 zero page (rules R212, R126). -/
def execAdcZp (z : Byte) (s : State) : Host.Outcome State Fault Refusal :=
  runInstr 3 false (.zp z) opAdc s

/-- ADC, 0x69 immediate (rules R212, R126). -/
def execAdcImm (v : Byte) (s : State) : Host.Outcome State Fault Refusal :=
  runInstr 2 false (.imm v) opAdc s

/-- ADC, 0x6D absolute (rules R212, R126). -/
def execAdcAbs (a : Word) (s : State) : Host.Outcome State Fault Refusal :=
  runInstr 4 false (.abs a) opAdc s

/-- ADC, 0x71 (indirect),Y (rules R212, R126). -/
def execAdcIndy (z : Byte) (s : State) : Host.Outcome State Fault Refusal :=
  runInstr 5 true (.indy z) opAdc s

/-- ADC, 0x75 zero page,X (rules R212, R126). -/
def execAdcZpx (z : Byte) (s : State) : Host.Outcome State Fault Refusal :=
  runInstr 4 false (.zpx z) opAdc s

/-- ADC, 0x79 absolute,Y (rules R212, R126). -/
def execAdcAbsy (a : Word) (s : State) : Host.Outcome State Fault Refusal :=
  runInstr 4 true (.absy a) opAdc s

/-- ADC, 0x7D absolute,X (rules R212, R126). -/
def execAdcAbsx (a : Word) (s : State) : Host.Outcome State Fault Refusal :=
  runInstr 4 true (.absx a) opAdc s

/-- SBC, 0xE1 (indirect,X) (rules R213, R126). -/
def execSbcIndx (z : Byte) (s : State) : Host.Outcome State Fault Refusal :=
  runInstr 6 false (.indx z) opSbc s

/-- SBC, 0xE5 zero page (rules R213, R126). -/
def execSbcZp (z : Byte) (s : State) : Host.Outcome State Fault Refusal :=
  runInstr 3 false (.zp z) opSbc s

/-- SBC, 0xE9 immediate (rules R213, R126). -/
def execSbcImm (v : Byte) (s : State) : Host.Outcome State Fault Refusal :=
  runInstr 2 false (.imm v) opSbc s

/-- SBC, 0xED absolute (rules R213, R126). -/
def execSbcAbs (a : Word) (s : State) : Host.Outcome State Fault Refusal :=
  runInstr 4 false (.abs a) opSbc s

/-- SBC, 0xF1 (indirect),Y (rules R213, R126). -/
def execSbcIndy (z : Byte) (s : State) : Host.Outcome State Fault Refusal :=
  runInstr 5 true (.indy z) opSbc s

/-- SBC, 0xF5 zero page,X (rules R213, R126). -/
def execSbcZpx (z : Byte) (s : State) : Host.Outcome State Fault Refusal :=
  runInstr 4 false (.zpx z) opSbc s

/-- SBC, 0xF9 absolute,Y (rules R213, R126). -/
def execSbcAbsy (a : Word) (s : State) : Host.Outcome State Fault Refusal :=
  runInstr 4 true (.absy a) opSbc s

/-- SBC, 0xFD absolute,X (rules R213, R126). -/
def execSbcAbsx (a : Word) (s : State) : Host.Outcome State Fault Refusal :=
  runInstr 4 true (.absx a) opSbc s

/-- AND, 0x21 (indirect,X) (rules R214, R126). -/
def execAndIndx (z : Byte) (s : State) : Host.Outcome State Fault Refusal :=
  runInstr 6 false (.indx z) opAnd s

/-- AND, 0x25 zero page (rules R214, R126). -/
def execAndZp (z : Byte) (s : State) : Host.Outcome State Fault Refusal :=
  runInstr 3 false (.zp z) opAnd s

/-- AND, 0x29 immediate (rules R214, R126). -/
def execAndImm (v : Byte) (s : State) : Host.Outcome State Fault Refusal :=
  runInstr 2 false (.imm v) opAnd s

/-- AND, 0x2D absolute (rules R214, R126). -/
def execAndAbs (a : Word) (s : State) : Host.Outcome State Fault Refusal :=
  runInstr 4 false (.abs a) opAnd s

/-- AND, 0x31 (indirect),Y (rules R214, R126). -/
def execAndIndy (z : Byte) (s : State) : Host.Outcome State Fault Refusal :=
  runInstr 5 true (.indy z) opAnd s

/-- AND, 0x35 zero page,X (rules R214, R126). -/
def execAndZpx (z : Byte) (s : State) : Host.Outcome State Fault Refusal :=
  runInstr 4 false (.zpx z) opAnd s

/-- AND, 0x39 absolute,Y (rules R214, R126). -/
def execAndAbsy (a : Word) (s : State) : Host.Outcome State Fault Refusal :=
  runInstr 4 true (.absy a) opAnd s

/-- AND, 0x3D absolute,X (rules R214, R126). -/
def execAndAbsx (a : Word) (s : State) : Host.Outcome State Fault Refusal :=
  runInstr 4 true (.absx a) opAnd s

/-- ORA, 0x01 (indirect,X) (rules R215, R126). -/
def execOraIndx (z : Byte) (s : State) : Host.Outcome State Fault Refusal :=
  runInstr 6 false (.indx z) opOra s

/-- ORA, 0x05 zero page (rules R215, R126). -/
def execOraZp (z : Byte) (s : State) : Host.Outcome State Fault Refusal :=
  runInstr 3 false (.zp z) opOra s

/-- ORA, 0x09 immediate (rules R215, R126). -/
def execOraImm (v : Byte) (s : State) : Host.Outcome State Fault Refusal :=
  runInstr 2 false (.imm v) opOra s

/-- ORA, 0x0D absolute (rules R215, R126). -/
def execOraAbs (a : Word) (s : State) : Host.Outcome State Fault Refusal :=
  runInstr 4 false (.abs a) opOra s

/-- ORA, 0x11 (indirect),Y (rules R215, R126). -/
def execOraIndy (z : Byte) (s : State) : Host.Outcome State Fault Refusal :=
  runInstr 5 true (.indy z) opOra s

/-- ORA, 0x15 zero page,X (rules R215, R126). -/
def execOraZpx (z : Byte) (s : State) : Host.Outcome State Fault Refusal :=
  runInstr 4 false (.zpx z) opOra s

/-- ORA, 0x19 absolute,Y (rules R215, R126). -/
def execOraAbsy (a : Word) (s : State) : Host.Outcome State Fault Refusal :=
  runInstr 4 true (.absy a) opOra s

/-- ORA, 0x1D absolute,X (rules R215, R126). -/
def execOraAbsx (a : Word) (s : State) : Host.Outcome State Fault Refusal :=
  runInstr 4 true (.absx a) opOra s

/-- EOR, 0x41 (indirect,X) (rules R216, R126). -/
def execEorIndx (z : Byte) (s : State) : Host.Outcome State Fault Refusal :=
  runInstr 6 false (.indx z) opEor s

/-- EOR, 0x45 zero page (rules R216, R126). -/
def execEorZp (z : Byte) (s : State) : Host.Outcome State Fault Refusal :=
  runInstr 3 false (.zp z) opEor s

/-- EOR, 0x49 immediate (rules R216, R126). -/
def execEorImm (v : Byte) (s : State) : Host.Outcome State Fault Refusal :=
  runInstr 2 false (.imm v) opEor s

/-- EOR, 0x4D absolute (rules R216, R126). -/
def execEorAbs (a : Word) (s : State) : Host.Outcome State Fault Refusal :=
  runInstr 4 false (.abs a) opEor s

/-- EOR, 0x51 (indirect),Y (rules R216, R126). -/
def execEorIndy (z : Byte) (s : State) : Host.Outcome State Fault Refusal :=
  runInstr 5 true (.indy z) opEor s

/-- EOR, 0x55 zero page,X (rules R216, R126). -/
def execEorZpx (z : Byte) (s : State) : Host.Outcome State Fault Refusal :=
  runInstr 4 false (.zpx z) opEor s

/-- EOR, 0x59 absolute,Y (rules R216, R126). -/
def execEorAbsy (a : Word) (s : State) : Host.Outcome State Fault Refusal :=
  runInstr 4 true (.absy a) opEor s

/-- EOR, 0x5D absolute,X (rules R216, R126). -/
def execEorAbsx (a : Word) (s : State) : Host.Outcome State Fault Refusal :=
  runInstr 4 true (.absx a) opEor s

/-- CMP, 0xC1 (indirect,X) (rules R218, R126). -/
def execCmpIndx (z : Byte) (s : State) : Host.Outcome State Fault Refusal :=
  runInstr 6 false (.indx z) opCmp s

/-- CMP, 0xC5 zero page (rules R218, R126). -/
def execCmpZp (z : Byte) (s : State) : Host.Outcome State Fault Refusal :=
  runInstr 3 false (.zp z) opCmp s

/-- CMP, 0xC9 immediate (rules R218, R126). -/
def execCmpImm (v : Byte) (s : State) : Host.Outcome State Fault Refusal :=
  runInstr 2 false (.imm v) opCmp s

/-- CMP, 0xCD absolute (rules R218, R126). -/
def execCmpAbs (a : Word) (s : State) : Host.Outcome State Fault Refusal :=
  runInstr 4 false (.abs a) opCmp s

/-- CMP, 0xD1 (indirect),Y (rules R218, R126). -/
def execCmpIndy (z : Byte) (s : State) : Host.Outcome State Fault Refusal :=
  runInstr 5 true (.indy z) opCmp s

/-- CMP, 0xD5 zero page,X (rules R218, R126). -/
def execCmpZpx (z : Byte) (s : State) : Host.Outcome State Fault Refusal :=
  runInstr 4 false (.zpx z) opCmp s

/-- CMP, 0xD9 absolute,Y (rules R218, R126). -/
def execCmpAbsy (a : Word) (s : State) : Host.Outcome State Fault Refusal :=
  runInstr 4 true (.absy a) opCmp s

/-- CMP, 0xDD absolute,X (rules R218, R126). -/
def execCmpAbsx (a : Word) (s : State) : Host.Outcome State Fault Refusal :=
  runInstr 4 true (.absx a) opCmp s

/-- CPX, 0xE0 immediate (rules R219, R126). -/
def execCpxImm (v : Byte) (s : State) : Host.Outcome State Fault Refusal :=
  runInstr 2 false (.imm v) opCpx s

/-- CPX, 0xE4 zero page (rules R219, R126). -/
def execCpxZp (z : Byte) (s : State) : Host.Outcome State Fault Refusal :=
  runInstr 3 false (.zp z) opCpx s

/-- CPX, 0xEC absolute (rules R219, R126). -/
def execCpxAbs (a : Word) (s : State) : Host.Outcome State Fault Refusal :=
  runInstr 4 false (.abs a) opCpx s

/-- CPY, 0xC0 immediate (rules R220, R126). -/
def execCpyImm (v : Byte) (s : State) : Host.Outcome State Fault Refusal :=
  runInstr 2 false (.imm v) opCpy s

/-- CPY, 0xC4 zero page (rules R220, R126). -/
def execCpyZp (z : Byte) (s : State) : Host.Outcome State Fault Refusal :=
  runInstr 3 false (.zp z) opCpy s

/-- CPY, 0xCC absolute (rules R220, R126). -/
def execCpyAbs (a : Word) (s : State) : Host.Outcome State Fault Refusal :=
  runInstr 4 false (.abs a) opCpy s

/-- BIT, 0x24 zero page (rules R221, R126). -/
def execBitZp (z : Byte) (s : State) : Host.Outcome State Fault Refusal :=
  runInstr 3 false (.zp z) opBit s

/-- BIT, 0x2C absolute (rules R221, R126). -/
def execBitAbs (a : Word) (s : State) : Host.Outcome State Fault Refusal :=
  runInstr 4 false (.abs a) opBit s

end Sys2Proof.Machine
end

