-- ==== Sys2Proof/Machine/Control.lean ====
section
/-! DEFINITION. Machine/Control.lean: branches, jumps, calls, returns and BRK (spec/44_control_flow.md). PC already
holds the next instruction's address when an operation runs (rule R150). -/

namespace Sys2Proof.Machine

/-- `Branch(cond)` (rule R260): the answer is `branch_extra`. -/
def branchOp (cond : Cpu → Bool) : Operation := fun t s =>
  if cond s.cpu then .ok (if pageDiffers s.cpu.pc t.addr then 2 else 1) (s.setPc t.addr) else .ok 0 s

/-- BCC (rule R261). -/
def opBcc : Operation := branchOp fun p => !p.c

/-- BCS (rule R262). -/
def opBcs : Operation := branchOp fun p => p.c

/-- BEQ (rule R263). -/
def opBeq : Operation := branchOp fun p => p.z

/-- BNE (rule R264). -/
def opBne : Operation := branchOp fun p => !p.z

/-- BMI (rule R265). -/
def opBmi : Operation := branchOp fun p => p.n

/-- BPL (rule R266). -/
def opBpl : Operation := branchOp fun p => !p.n

/-- BVC (rule R267). -/
def opBvc : Operation := branchOp fun p => !p.v

/-- BVS (rule R268). -/
def opBvs : Operation := branchOp fun p => p.v

/-- JMP (rule R269). -/
def opJmp : Operation := fun t s => .ok 0 (s.setPc t.addr)

/-- JSR (rule R270): the pushed address is that of the instruction's last byte. -/
def opJsr : Operation := fun t s => (push16 s (s.cpu.pc - 1)).bind fun _ s1 => .ok 0 (s1.setPc t.addr)

/-- RTS (rule R271). -/
def opRts : Operation := fun _ s => (pull16 s).bind fun ret s1 => .ok 0 (s1.setPc (ret + 1))

/-- RTI (rule R272). -/
def opRti : Operation := fun _ s => (returnFromException s).bind fun _ s1 => .ok 0 s1

/-- BRK (rule R273): the return address PC0 + 2 is one past the byte after the opcode. -/
def opBrk : Operation := fun _ s =>
  (takeException s (s.cpu.pc + 1) (pushedStatus s.cpu) irqVector).bind fun _ s1 => .ok 0 s1

/-- BCC, 0x90 relative (rules R261, R126). -/
def execBcc (d : Byte) (s : State) : Host.Outcome State Fault Refusal :=
  runInstr 2 false (.rel d) opBcc s

/-- BCS, 0xB0 relative (rules R262, R126). -/
def execBcs (d : Byte) (s : State) : Host.Outcome State Fault Refusal :=
  runInstr 2 false (.rel d) opBcs s

/-- BEQ, 0xF0 relative (rules R263, R126). -/
def execBeq (d : Byte) (s : State) : Host.Outcome State Fault Refusal :=
  runInstr 2 false (.rel d) opBeq s

/-- BNE, 0xD0 relative (rules R264, R126). -/
def execBne (d : Byte) (s : State) : Host.Outcome State Fault Refusal :=
  runInstr 2 false (.rel d) opBne s

/-- BMI, 0x30 relative (rules R265, R126). -/
def execBmi (d : Byte) (s : State) : Host.Outcome State Fault Refusal :=
  runInstr 2 false (.rel d) opBmi s

/-- BPL, 0x10 relative (rules R266, R126). -/
def execBpl (d : Byte) (s : State) : Host.Outcome State Fault Refusal :=
  runInstr 2 false (.rel d) opBpl s

/-- BVC, 0x50 relative (rules R267, R126). -/
def execBvc (d : Byte) (s : State) : Host.Outcome State Fault Refusal :=
  runInstr 2 false (.rel d) opBvc s

/-- BVS, 0x70 relative (rules R268, R126). -/
def execBvs (d : Byte) (s : State) : Host.Outcome State Fault Refusal :=
  runInstr 2 false (.rel d) opBvs s

/-- JMP, 0x4C absolute (rules R269, R126). -/
def execJmpAbs (a : Word) (s : State) : Host.Outcome State Fault Refusal :=
  runInstr 3 false (.abs a) opJmp s

/-- JMP, 0x6C indirect (rules R269, R126). -/
def execJmpInd (a : Word) (s : State) : Host.Outcome State Fault Refusal :=
  runInstr 5 false (.ind a) opJmp s

/-- JSR, 0x20 absolute (rules R270, R126). -/
def execJsrAbs (a : Word) (s : State) : Host.Outcome State Fault Refusal :=
  runInstr 6 false (.abs a) opJsr s

/-- RTS, 0x60 implied (rules R271, R126). -/
def execRts (s : State) : Host.Outcome State Fault Refusal :=
  runInstr 6 false .imp opRts s

/-- RTI, 0x40 implied (rules R272, R126). -/
def execRti (s : State) : Host.Outcome State Fault Refusal :=
  runInstr 6 false .imp opRti s

/-- BRK, 0x00 implied (rules R273, R126). -/
def execBrk (s : State) : Host.Outcome State Fault Refusal :=
  runInstr 7 false .imp opBrk s

end Sys2Proof.Machine
end

