-- ==== Sys2Proof/Machine/LoadStore.lean ====
section
/-! DEFINITION. Machine/LoadStore.lean: loads, stores and register transfers (spec/41_load_store_transfer.md). Each
operation is the pseudocode of its rule; each meaning below applies it to one row of rule R126. -/

namespace Sys2Proof.Machine

/-- LDA (rule R180). -/
def opLda : Operation := fun t s => (readTarget s t).bind fun v s1 => .ok 0 (setZN (s1.setA v) v)

/-- LDX (rule R181). -/
def opLdx : Operation := fun t s => (readTarget s t).bind fun v s1 => .ok 0 (setZN (s1.setX v) v)

/-- LDY (rule R182). -/
def opLdy : Operation := fun t s => (readTarget s t).bind fun v s1 => .ok 0 (setZN (s1.setY v) v)

/-- `StoreOperand(v)` and nothing else (rules R183-R185, R323). -/
def storeOp (v : Byte) : Operation := fun t s => (writeTarget s t v).bind fun _ s1 => .ok 0 s1

/-- STA (rule R183). -/
def opSta : Operation := fun t s => storeOp s.cpu.a t s

/-- STX (rule R184). -/
def opStx : Operation := fun t s => storeOp s.cpu.x t s

/-- STY (rule R185). -/
def opSty : Operation := fun t s => storeOp s.cpu.y t s

/-- TAX (rule R186). -/
def opTax : Operation := fun _ s => .ok 0 (setZN (s.setX s.cpu.a) s.cpu.a)

/-- TAY (rule R187). -/
def opTay : Operation := fun _ s => .ok 0 (setZN (s.setY s.cpu.a) s.cpu.a)

/-- TXA (rule R188). -/
def opTxa : Operation := fun _ s => .ok 0 (setZN (s.setA s.cpu.x) s.cpu.x)

/-- TYA (rule R189). -/
def opTya : Operation := fun _ s => .ok 0 (setZN (s.setA s.cpu.y) s.cpu.y)

/-- TSX (rule R190). -/
def opTsx : Operation := fun _ s => .ok 0 (setZN (s.setX s.cpu.sp) s.cpu.sp)

/-- TXS (rule R191): the one transfer that writes no flag. -/
def opTxs : Operation := fun _ s => .ok 0 (s.setSp s.cpu.x)

/-- LDA, 0xA1 (indirect,X) (rules R180, R126). -/
def execLdaIndx (z : Byte) (s : State) : Host.Outcome State Fault Refusal :=
  runInstr 6 false (.indx z) opLda s

/-- LDA, 0xA5 zero page (rules R180, R126). -/
def execLdaZp (z : Byte) (s : State) : Host.Outcome State Fault Refusal :=
  runInstr 3 false (.zp z) opLda s

/-- LDA, 0xA9 immediate (rules R180, R126). -/
def execLdaImm (v : Byte) (s : State) : Host.Outcome State Fault Refusal :=
  runInstr 2 false (.imm v) opLda s

/-- LDA, 0xAD absolute (rules R180, R126). -/
def execLdaAbs (a : Word) (s : State) : Host.Outcome State Fault Refusal :=
  runInstr 4 false (.abs a) opLda s

/-- LDA, 0xB1 (indirect),Y (rules R180, R126). -/
def execLdaIndy (z : Byte) (s : State) : Host.Outcome State Fault Refusal :=
  runInstr 5 true (.indy z) opLda s

/-- LDA, 0xB5 zero page,X (rules R180, R126). -/
def execLdaZpx (z : Byte) (s : State) : Host.Outcome State Fault Refusal :=
  runInstr 4 false (.zpx z) opLda s

/-- LDA, 0xB9 absolute,Y (rules R180, R126). -/
def execLdaAbsy (a : Word) (s : State) : Host.Outcome State Fault Refusal :=
  runInstr 4 true (.absy a) opLda s

/-- LDA, 0xBD absolute,X (rules R180, R126). -/
def execLdaAbsx (a : Word) (s : State) : Host.Outcome State Fault Refusal :=
  runInstr 4 true (.absx a) opLda s

/-- LDX, 0xA2 immediate (rules R181, R126). -/
def execLdxImm (v : Byte) (s : State) : Host.Outcome State Fault Refusal :=
  runInstr 2 false (.imm v) opLdx s

/-- LDX, 0xA6 zero page (rules R181, R126). -/
def execLdxZp (z : Byte) (s : State) : Host.Outcome State Fault Refusal :=
  runInstr 3 false (.zp z) opLdx s

/-- LDX, 0xAE absolute (rules R181, R126). -/
def execLdxAbs (a : Word) (s : State) : Host.Outcome State Fault Refusal :=
  runInstr 4 false (.abs a) opLdx s

/-- LDX, 0xB6 zero page,Y (rules R181, R126). -/
def execLdxZpy (z : Byte) (s : State) : Host.Outcome State Fault Refusal :=
  runInstr 4 false (.zpy z) opLdx s

/-- LDX, 0xBE absolute,Y (rules R181, R126). -/
def execLdxAbsy (a : Word) (s : State) : Host.Outcome State Fault Refusal :=
  runInstr 4 true (.absy a) opLdx s

/-- LDY, 0xA0 immediate (rules R182, R126). -/
def execLdyImm (v : Byte) (s : State) : Host.Outcome State Fault Refusal :=
  runInstr 2 false (.imm v) opLdy s

/-- LDY, 0xA4 zero page (rules R182, R126). -/
def execLdyZp (z : Byte) (s : State) : Host.Outcome State Fault Refusal :=
  runInstr 3 false (.zp z) opLdy s

/-- LDY, 0xAC absolute (rules R182, R126). -/
def execLdyAbs (a : Word) (s : State) : Host.Outcome State Fault Refusal :=
  runInstr 4 false (.abs a) opLdy s

/-- LDY, 0xB4 zero page,X (rules R182, R126). -/
def execLdyZpx (z : Byte) (s : State) : Host.Outcome State Fault Refusal :=
  runInstr 4 false (.zpx z) opLdy s

/-- LDY, 0xBC absolute,X (rules R182, R126). -/
def execLdyAbsx (a : Word) (s : State) : Host.Outcome State Fault Refusal :=
  runInstr 4 true (.absx a) opLdy s

/-- STA, 0x81 (indirect,X) (rules R183, R126). -/
def execStaIndx (z : Byte) (s : State) : Host.Outcome State Fault Refusal :=
  runInstr 6 false (.indx z) opSta s

/-- STA, 0x85 zero page (rules R183, R126). -/
def execStaZp (z : Byte) (s : State) : Host.Outcome State Fault Refusal :=
  runInstr 3 false (.zp z) opSta s

/-- STA, 0x8D absolute (rules R183, R126). -/
def execStaAbs (a : Word) (s : State) : Host.Outcome State Fault Refusal :=
  runInstr 4 false (.abs a) opSta s

/-- STA, 0x91 (indirect),Y (rules R183, R126). -/
def execStaIndy (z : Byte) (s : State) : Host.Outcome State Fault Refusal :=
  runInstr 6 false (.indy z) opSta s

/-- STA, 0x95 zero page,X (rules R183, R126). -/
def execStaZpx (z : Byte) (s : State) : Host.Outcome State Fault Refusal :=
  runInstr 4 false (.zpx z) opSta s

/-- STA, 0x99 absolute,Y (rules R183, R126). -/
def execStaAbsy (a : Word) (s : State) : Host.Outcome State Fault Refusal :=
  runInstr 5 false (.absy a) opSta s

/-- STA, 0x9D absolute,X (rules R183, R126). -/
def execStaAbsx (a : Word) (s : State) : Host.Outcome State Fault Refusal :=
  runInstr 5 false (.absx a) opSta s

/-- STX, 0x86 zero page (rules R184, R126). -/
def execStxZp (z : Byte) (s : State) : Host.Outcome State Fault Refusal :=
  runInstr 3 false (.zp z) opStx s

/-- STX, 0x8E absolute (rules R184, R126). -/
def execStxAbs (a : Word) (s : State) : Host.Outcome State Fault Refusal :=
  runInstr 4 false (.abs a) opStx s

/-- STX, 0x96 zero page,Y (rules R184, R126). -/
def execStxZpy (z : Byte) (s : State) : Host.Outcome State Fault Refusal :=
  runInstr 4 false (.zpy z) opStx s

/-- STY, 0x84 zero page (rules R185, R126). -/
def execStyZp (z : Byte) (s : State) : Host.Outcome State Fault Refusal :=
  runInstr 3 false (.zp z) opSty s

/-- STY, 0x8C absolute (rules R185, R126). -/
def execStyAbs (a : Word) (s : State) : Host.Outcome State Fault Refusal :=
  runInstr 4 false (.abs a) opSty s

/-- STY, 0x94 zero page,X (rules R185, R126). -/
def execStyZpx (z : Byte) (s : State) : Host.Outcome State Fault Refusal :=
  runInstr 4 false (.zpx z) opSty s

/-- TAX, 0xAA implied (rules R186, R126). -/
def execTax (s : State) : Host.Outcome State Fault Refusal :=
  runInstr 2 false .imp opTax s

/-- TAY, 0xA8 implied (rules R187, R126). -/
def execTay (s : State) : Host.Outcome State Fault Refusal :=
  runInstr 2 false .imp opTay s

/-- TXA, 0x8A implied (rules R188, R126). -/
def execTxa (s : State) : Host.Outcome State Fault Refusal :=
  runInstr 2 false .imp opTxa s

/-- TYA, 0x98 implied (rules R189, R126). -/
def execTya (s : State) : Host.Outcome State Fault Refusal :=
  runInstr 2 false .imp opTya s

/-- TSX, 0xBA implied (rules R190, R126). -/
def execTsx (s : State) : Host.Outcome State Fault Refusal :=
  runInstr 2 false .imp opTsx s

/-- TXS, 0x9A implied (rules R191, R126). -/
def execTxs (s : State) : Host.Outcome State Fault Refusal :=
  runInstr 2 false .imp opTxs s

end Sys2Proof.Machine
end

