-- ==== Sys2Proof/Machine/Shift.lean ====
section
/-! DEFINITION. Machine/Shift.lean: shifts, rotates, increments and decrements (spec/43_shift_rotate_incdec.md). -/

namespace Sys2Proof.Machine

/-- Read the operand once, write the shifted value once, with C from the shift; `after` is what follows the write
(rules R240-R243, R327-R330). C is written before the store, as the rules order it. -/
def shiftOp (f : ShiftFn) (after : State → Byte → State) : Operation := fun t s =>
  (readTarget s t).bind fun m s1 =>
    (writeTarget (s1.setC (f s1.cpu.c m).1) t (f s1.cpu.c m).2).bind fun _ s2 =>
      .ok 0 (after s2 (f s1.cpu.c m).2)

/-- ASL (rule R240). -/
def opAsl : Operation := shiftOp shiftAsl setZN

/-- LSR (rule R241). -/
def opLsr : Operation := shiftOp shiftLsr setZN

/-- ROL (rule R242). -/
def opRol : Operation := shiftOp shiftRol setZN

/-- ROR (rule R243). -/
def opRor : Operation := shiftOp shiftRor setZN

/-- Read the operand once, write it moved by `k` once; `after` is what follows the write (rules R244, R245, R325,
R326). -/
def stepOp (k : Byte) (after : State → Byte → State) : Operation := fun t s =>
  (readTarget s t).bind fun m s1 =>
    (writeTarget s1 t (m + k)).bind fun _ s2 => .ok 0 (after s2 (m + k))

/-- INC (rule R244). -/
def opInc : Operation := stepOp 1 setZN

/-- DEC (rule R245). -/
def opDec : Operation := stepOp (-1) setZN

/-- INX (rule R246). -/
def opInx : Operation := fun _ s => .ok 0 (setZN (s.setX (s.cpu.x + 1)) (s.cpu.x + 1))

/-- INY (rule R247). -/
def opIny : Operation := fun _ s => .ok 0 (setZN (s.setY (s.cpu.y + 1)) (s.cpu.y + 1))

/-- DEX (rule R248). -/
def opDex : Operation := fun _ s => .ok 0 (setZN (s.setX (s.cpu.x - 1)) (s.cpu.x - 1))

/-- DEY (rule R249). -/
def opDey : Operation := fun _ s => .ok 0 (setZN (s.setY (s.cpu.y - 1)) (s.cpu.y - 1))

/-- ASL, 0x06 zero page (rules R240, R126). -/
def execAslZp (z : Byte) (s : State) : Host.Outcome State Fault Refusal :=
  runInstr 5 false (.zp z) opAsl s

/-- ASL, 0x0A accumulator (rules R240, R126). -/
def execAslAcc (s : State) : Host.Outcome State Fault Refusal :=
  runInstr 2 false .acc opAsl s

/-- ASL, 0x0E absolute (rules R240, R126). -/
def execAslAbs (a : Word) (s : State) : Host.Outcome State Fault Refusal :=
  runInstr 6 false (.abs a) opAsl s

/-- ASL, 0x16 zero page,X (rules R240, R126). -/
def execAslZpx (z : Byte) (s : State) : Host.Outcome State Fault Refusal :=
  runInstr 6 false (.zpx z) opAsl s

/-- ASL, 0x1E absolute,X (rules R240, R126). -/
def execAslAbsx (a : Word) (s : State) : Host.Outcome State Fault Refusal :=
  runInstr 7 false (.absx a) opAsl s

/-- LSR, 0x46 zero page (rules R241, R126). -/
def execLsrZp (z : Byte) (s : State) : Host.Outcome State Fault Refusal :=
  runInstr 5 false (.zp z) opLsr s

/-- LSR, 0x4A accumulator (rules R241, R126). -/
def execLsrAcc (s : State) : Host.Outcome State Fault Refusal :=
  runInstr 2 false .acc opLsr s

/-- LSR, 0x4E absolute (rules R241, R126). -/
def execLsrAbs (a : Word) (s : State) : Host.Outcome State Fault Refusal :=
  runInstr 6 false (.abs a) opLsr s

/-- LSR, 0x56 zero page,X (rules R241, R126). -/
def execLsrZpx (z : Byte) (s : State) : Host.Outcome State Fault Refusal :=
  runInstr 6 false (.zpx z) opLsr s

/-- LSR, 0x5E absolute,X (rules R241, R126). -/
def execLsrAbsx (a : Word) (s : State) : Host.Outcome State Fault Refusal :=
  runInstr 7 false (.absx a) opLsr s

/-- ROL, 0x26 zero page (rules R242, R126). -/
def execRolZp (z : Byte) (s : State) : Host.Outcome State Fault Refusal :=
  runInstr 5 false (.zp z) opRol s

/-- ROL, 0x2A accumulator (rules R242, R126). -/
def execRolAcc (s : State) : Host.Outcome State Fault Refusal :=
  runInstr 2 false .acc opRol s

/-- ROL, 0x2E absolute (rules R242, R126). -/
def execRolAbs (a : Word) (s : State) : Host.Outcome State Fault Refusal :=
  runInstr 6 false (.abs a) opRol s

/-- ROL, 0x36 zero page,X (rules R242, R126). -/
def execRolZpx (z : Byte) (s : State) : Host.Outcome State Fault Refusal :=
  runInstr 6 false (.zpx z) opRol s

/-- ROL, 0x3E absolute,X (rules R242, R126). -/
def execRolAbsx (a : Word) (s : State) : Host.Outcome State Fault Refusal :=
  runInstr 7 false (.absx a) opRol s

/-- ROR, 0x66 zero page (rules R243, R126). -/
def execRorZp (z : Byte) (s : State) : Host.Outcome State Fault Refusal :=
  runInstr 5 false (.zp z) opRor s

/-- ROR, 0x6A accumulator (rules R243, R126). -/
def execRorAcc (s : State) : Host.Outcome State Fault Refusal :=
  runInstr 2 false .acc opRor s

/-- ROR, 0x6E absolute (rules R243, R126). -/
def execRorAbs (a : Word) (s : State) : Host.Outcome State Fault Refusal :=
  runInstr 6 false (.abs a) opRor s

/-- ROR, 0x76 zero page,X (rules R243, R126). -/
def execRorZpx (z : Byte) (s : State) : Host.Outcome State Fault Refusal :=
  runInstr 6 false (.zpx z) opRor s

/-- ROR, 0x7E absolute,X (rules R243, R126). -/
def execRorAbsx (a : Word) (s : State) : Host.Outcome State Fault Refusal :=
  runInstr 7 false (.absx a) opRor s

/-- INC, 0xE6 zero page (rules R244, R126). -/
def execIncZp (z : Byte) (s : State) : Host.Outcome State Fault Refusal :=
  runInstr 5 false (.zp z) opInc s

/-- INC, 0xEE absolute (rules R244, R126). -/
def execIncAbs (a : Word) (s : State) : Host.Outcome State Fault Refusal :=
  runInstr 6 false (.abs a) opInc s

/-- INC, 0xF6 zero page,X (rules R244, R126). -/
def execIncZpx (z : Byte) (s : State) : Host.Outcome State Fault Refusal :=
  runInstr 6 false (.zpx z) opInc s

/-- INC, 0xFE absolute,X (rules R244, R126). -/
def execIncAbsx (a : Word) (s : State) : Host.Outcome State Fault Refusal :=
  runInstr 7 false (.absx a) opInc s

/-- DEC, 0xC6 zero page (rules R245, R126). -/
def execDecZp (z : Byte) (s : State) : Host.Outcome State Fault Refusal :=
  runInstr 5 false (.zp z) opDec s

/-- DEC, 0xCE absolute (rules R245, R126). -/
def execDecAbs (a : Word) (s : State) : Host.Outcome State Fault Refusal :=
  runInstr 6 false (.abs a) opDec s

/-- DEC, 0xD6 zero page,X (rules R245, R126). -/
def execDecZpx (z : Byte) (s : State) : Host.Outcome State Fault Refusal :=
  runInstr 6 false (.zpx z) opDec s

/-- DEC, 0xDE absolute,X (rules R245, R126). -/
def execDecAbsx (a : Word) (s : State) : Host.Outcome State Fault Refusal :=
  runInstr 7 false (.absx a) opDec s

/-- INX, 0xE8 implied (rules R246, R126). -/
def execInx (s : State) : Host.Outcome State Fault Refusal :=
  runInstr 2 false .imp opInx s

/-- INY, 0xC8 implied (rules R247, R126). -/
def execIny (s : State) : Host.Outcome State Fault Refusal :=
  runInstr 2 false .imp opIny s

/-- DEX, 0xCA implied (rules R248, R126). -/
def execDex (s : State) : Host.Outcome State Fault Refusal :=
  runInstr 2 false .imp opDex s

/-- DEY, 0x88 implied (rules R249, R126). -/
def execDey (s : State) : Host.Outcome State Fault Refusal :=
  runInstr 2 false .imp opDey s

end Sys2Proof.Machine
end

