-- ==== Sys2Proof/Machine/Stack.lean ====
section
/-! DEFINITION. Machine/Stack.lean: stack, flag and no-operation instructions (spec/45_stack_flags_nop.md). -/

namespace Sys2Proof.Machine

/-- PHA (rule R290). -/
def opPha : Operation := fun _ s => (push s s.cpu.a).bind fun _ s1 => .ok 0 s1

/-- PHP (rule R291): bits 4 and 5 are set in the pushed copy. -/
def opPhp : Operation := fun _ s => (push s (pushedStatus s.cpu)).bind fun _ s1 => .ok 0 s1

/-- PLA (rule R292). -/
def opPla : Operation := fun _ s => (pull s).bind fun v s1 => .ok 0 (setZN (s1.setA v) v)

/-- PLP (rule R293). -/
def opPlp : Operation := fun _ s => (pull s).bind fun p s1 => .ok 0 (unpackP s1 p)

/-- CLC (rule R294). -/
def opClc : Operation := fun _ s => .ok 0 (s.setC false)

/-- SEC (rule R295). -/
def opSec : Operation := fun _ s => .ok 0 (s.setC true)

/-- CLI (rule R296). -/
def opCli : Operation := fun _ s => .ok 0 (s.setI false)

/-- SEI (rule R297). -/
def opSei : Operation := fun _ s => .ok 0 (s.setI true)

/-- CLD (rule R298). -/
def opCld : Operation := fun _ s => .ok 0 (s.setD false)

/-- SED (rule R299): D has no effect on arithmetic (rule R43). -/
def opSed : Operation := fun _ s => .ok 0 (s.setD true)

/-- CLV (rule R300). -/
def opClv : Operation := fun _ s => .ok 0 (s.setV false)

/-- NOP (rule R301). -/
def opNop : Operation := fun _ s => .ok 0 s

/-- PHA, 0x48 implied (rules R290, R126). -/
def execPha (s : State) : Host.Outcome State Fault Refusal :=
  runInstr 3 false .imp opPha s

/-- PHP, 0x08 implied (rules R291, R126). -/
def execPhp (s : State) : Host.Outcome State Fault Refusal :=
  runInstr 3 false .imp opPhp s

/-- PLA, 0x68 implied (rules R292, R126). -/
def execPla (s : State) : Host.Outcome State Fault Refusal :=
  runInstr 4 false .imp opPla s

/-- PLP, 0x28 implied (rules R293, R126). -/
def execPlp (s : State) : Host.Outcome State Fault Refusal :=
  runInstr 4 false .imp opPlp s

/-- CLC, 0x18 implied (rules R294, R126). -/
def execClc (s : State) : Host.Outcome State Fault Refusal :=
  runInstr 2 false .imp opClc s

/-- SEC, 0x38 implied (rules R295, R126). -/
def execSec (s : State) : Host.Outcome State Fault Refusal :=
  runInstr 2 false .imp opSec s

/-- CLI, 0x58 implied (rules R296, R126). -/
def execCli (s : State) : Host.Outcome State Fault Refusal :=
  runInstr 2 false .imp opCli s

/-- SEI, 0x78 implied (rules R297, R126). -/
def execSei (s : State) : Host.Outcome State Fault Refusal :=
  runInstr 2 false .imp opSei s

/-- CLD, 0xD8 implied (rules R298, R126). -/
def execCld (s : State) : Host.Outcome State Fault Refusal :=
  runInstr 2 false .imp opCld s

/-- SED, 0xF8 implied (rules R299, R126). -/
def execSed (s : State) : Host.Outcome State Fault Refusal :=
  runInstr 2 false .imp opSed s

/-- CLV, 0xB8 implied (rules R300, R126). -/
def execClv (s : State) : Host.Outcome State Fault Refusal :=
  runInstr 2 false .imp opClv s

/-- NOP, 0xEA implied (rules R301, R126). -/
def execNop (s : State) : Host.Outcome State Fault Refusal :=
  runInstr 2 false .imp opNop s

end Sys2Proof.Machine
end

