-- ==== Sys2Proof/Machine/Unofficial.lean ====
section
/-! DEFINITION. Machine/Unofficial.lean: the 80 unofficial opcodes (spec/46_unofficial.md). They are mapped when
`UNOFFICIAL_OPCODES = nestest` (rule R320): Decode.lean decides that; the meanings below are the same in any case. -/

namespace Sys2Proof.Machine

/-- *NOP (rule R321): the mode function only, no data access. -/
def opUnop : Operation := fun _ s => .ok 0 s

/-- *LAX (rule R322). -/
def opLax : Operation := fun t s => (readTarget s t).bind fun v s1 => .ok 0 (setZN ((s1.setA v).setX v) v)

/-- *SAX (rule R323). -/
def opSax : Operation := fun t s => storeOp (s.cpu.a &&& s.cpu.x) t s

/-- *SBC (rule R324): as SBC immediate. -/
def opUsbc : Operation := fun t s => (readTarget s t).bind fun m s1 => .ok 0 (addWithCarry s1 (m ^^^ 0xFF))

/-- *DCP (rule R325). -/
def opDcp : Operation := stepOp (-1) fun s r => compare s s.cpu.a r

/-- *ISB (rule R326). -/
def opIsb : Operation := stepOp 1 fun s r => addWithCarry s (r ^^^ 0xFF)

/-- *SLO (rule R327). -/
def opSlo : Operation := shiftOp shiftAsl fun s r => setZN (s.setA (s.cpu.a ||| r)) (s.cpu.a ||| r)

/-- *RLA (rule R328). -/
def opRla : Operation := shiftOp shiftRol fun s r => setZN (s.setA (s.cpu.a &&& r)) (s.cpu.a &&& r)

/-- *SRE (rule R329). -/
def opSre : Operation := shiftOp shiftLsr fun s r => setZN (s.setA (s.cpu.a ^^^ r)) (s.cpu.a ^^^ r)

/-- *RRA (rule R330): the rotate's carry out is the add's carry in. -/
def opRra : Operation := shiftOp shiftRor addWithCarry

/-- *NOP, 0x04 zero page (rules R321, R126). -/
def execUnopZp04 (z : Byte) (s : State) : Host.Outcome State Fault Refusal :=
  runInstr 3 false (.zp z) opUnop s

/-- *NOP, 0x0C absolute (rules R321, R126). -/
def execUnopAbs0C (a : Word) (s : State) : Host.Outcome State Fault Refusal :=
  runInstr 4 false (.abs a) opUnop s

/-- *NOP, 0x14 zero page,X (rules R321, R126). -/
def execUnopZpx14 (z : Byte) (s : State) : Host.Outcome State Fault Refusal :=
  runInstr 4 false (.zpx z) opUnop s

/-- *NOP, 0x1A implied (rules R321, R126). -/
def execUnopImp1A (s : State) : Host.Outcome State Fault Refusal :=
  runInstr 2 false .imp opUnop s

/-- *NOP, 0x1C absolute,X (rules R321, R126). -/
def execUnopAbsx1C (a : Word) (s : State) : Host.Outcome State Fault Refusal :=
  runInstr 4 true (.absx a) opUnop s

/-- *NOP, 0x34 zero page,X (rules R321, R126). -/
def execUnopZpx34 (z : Byte) (s : State) : Host.Outcome State Fault Refusal :=
  runInstr 4 false (.zpx z) opUnop s

/-- *NOP, 0x3A implied (rules R321, R126). -/
def execUnopImp3A (s : State) : Host.Outcome State Fault Refusal :=
  runInstr 2 false .imp opUnop s

/-- *NOP, 0x3C absolute,X (rules R321, R126). -/
def execUnopAbsx3C (a : Word) (s : State) : Host.Outcome State Fault Refusal :=
  runInstr 4 true (.absx a) opUnop s

/-- *NOP, 0x44 zero page (rules R321, R126). -/
def execUnopZp44 (z : Byte) (s : State) : Host.Outcome State Fault Refusal :=
  runInstr 3 false (.zp z) opUnop s

/-- *NOP, 0x54 zero page,X (rules R321, R126). -/
def execUnopZpx54 (z : Byte) (s : State) : Host.Outcome State Fault Refusal :=
  runInstr 4 false (.zpx z) opUnop s

/-- *NOP, 0x5A implied (rules R321, R126). -/
def execUnopImp5A (s : State) : Host.Outcome State Fault Refusal :=
  runInstr 2 false .imp opUnop s

/-- *NOP, 0x5C absolute,X (rules R321, R126). -/
def execUnopAbsx5C (a : Word) (s : State) : Host.Outcome State Fault Refusal :=
  runInstr 4 true (.absx a) opUnop s

/-- *NOP, 0x64 zero page (rules R321, R126). -/
def execUnopZp64 (z : Byte) (s : State) : Host.Outcome State Fault Refusal :=
  runInstr 3 false (.zp z) opUnop s

/-- *NOP, 0x74 zero page,X (rules R321, R126). -/
def execUnopZpx74 (z : Byte) (s : State) : Host.Outcome State Fault Refusal :=
  runInstr 4 false (.zpx z) opUnop s

/-- *NOP, 0x7A implied (rules R321, R126). -/
def execUnopImp7A (s : State) : Host.Outcome State Fault Refusal :=
  runInstr 2 false .imp opUnop s

/-- *NOP, 0x7C absolute,X (rules R321, R126). -/
def execUnopAbsx7C (a : Word) (s : State) : Host.Outcome State Fault Refusal :=
  runInstr 4 true (.absx a) opUnop s

/-- *NOP, 0x80 immediate (rules R321, R126). -/
def execUnopImm80 (v : Byte) (s : State) : Host.Outcome State Fault Refusal :=
  runInstr 2 false (.imm v) opUnop s

/-- *NOP, 0x82 immediate (rules R321, R126). -/
def execUnopImm82 (v : Byte) (s : State) : Host.Outcome State Fault Refusal :=
  runInstr 2 false (.imm v) opUnop s

/-- *NOP, 0x89 immediate (rules R321, R126). -/
def execUnopImm89 (v : Byte) (s : State) : Host.Outcome State Fault Refusal :=
  runInstr 2 false (.imm v) opUnop s

/-- *NOP, 0xC2 immediate (rules R321, R126). -/
def execUnopImmC2 (v : Byte) (s : State) : Host.Outcome State Fault Refusal :=
  runInstr 2 false (.imm v) opUnop s

/-- *NOP, 0xD4 zero page,X (rules R321, R126). -/
def execUnopZpxD4 (z : Byte) (s : State) : Host.Outcome State Fault Refusal :=
  runInstr 4 false (.zpx z) opUnop s

/-- *NOP, 0xDA implied (rules R321, R126). -/
def execUnopImpDA (s : State) : Host.Outcome State Fault Refusal :=
  runInstr 2 false .imp opUnop s

/-- *NOP, 0xDC absolute,X (rules R321, R126). -/
def execUnopAbsxDC (a : Word) (s : State) : Host.Outcome State Fault Refusal :=
  runInstr 4 true (.absx a) opUnop s

/-- *NOP, 0xE2 immediate (rules R321, R126). -/
def execUnopImmE2 (v : Byte) (s : State) : Host.Outcome State Fault Refusal :=
  runInstr 2 false (.imm v) opUnop s

/-- *NOP, 0xF4 zero page,X (rules R321, R126). -/
def execUnopZpxF4 (z : Byte) (s : State) : Host.Outcome State Fault Refusal :=
  runInstr 4 false (.zpx z) opUnop s

/-- *NOP, 0xFA implied (rules R321, R126). -/
def execUnopImpFA (s : State) : Host.Outcome State Fault Refusal :=
  runInstr 2 false .imp opUnop s

/-- *NOP, 0xFC absolute,X (rules R321, R126). -/
def execUnopAbsxFC (a : Word) (s : State) : Host.Outcome State Fault Refusal :=
  runInstr 4 true (.absx a) opUnop s

/-- *LAX, 0xA3 (indirect,X) (rules R322, R126). -/
def execLaxIndx (z : Byte) (s : State) : Host.Outcome State Fault Refusal :=
  runInstr 6 false (.indx z) opLax s

/-- *LAX, 0xA7 zero page (rules R322, R126). -/
def execLaxZp (z : Byte) (s : State) : Host.Outcome State Fault Refusal :=
  runInstr 3 false (.zp z) opLax s

/-- *LAX, 0xAF absolute (rules R322, R126). -/
def execLaxAbs (a : Word) (s : State) : Host.Outcome State Fault Refusal :=
  runInstr 4 false (.abs a) opLax s

/-- *LAX, 0xB3 (indirect),Y (rules R322, R126). -/
def execLaxIndy (z : Byte) (s : State) : Host.Outcome State Fault Refusal :=
  runInstr 5 true (.indy z) opLax s

/-- *LAX, 0xB7 zero page,Y (rules R322, R126). -/
def execLaxZpy (z : Byte) (s : State) : Host.Outcome State Fault Refusal :=
  runInstr 4 false (.zpy z) opLax s

/-- *LAX, 0xBF absolute,Y (rules R322, R126). -/
def execLaxAbsy (a : Word) (s : State) : Host.Outcome State Fault Refusal :=
  runInstr 4 true (.absy a) opLax s

/-- *SAX, 0x83 (indirect,X) (rules R323, R126). -/
def execSaxIndx (z : Byte) (s : State) : Host.Outcome State Fault Refusal :=
  runInstr 6 false (.indx z) opSax s

/-- *SAX, 0x87 zero page (rules R323, R126). -/
def execSaxZp (z : Byte) (s : State) : Host.Outcome State Fault Refusal :=
  runInstr 3 false (.zp z) opSax s

/-- *SAX, 0x8F absolute (rules R323, R126). -/
def execSaxAbs (a : Word) (s : State) : Host.Outcome State Fault Refusal :=
  runInstr 4 false (.abs a) opSax s

/-- *SAX, 0x97 zero page,Y (rules R323, R126). -/
def execSaxZpy (z : Byte) (s : State) : Host.Outcome State Fault Refusal :=
  runInstr 4 false (.zpy z) opSax s

/-- *SBC, 0xEB immediate (rules R324, R126). -/
def execUsbcImm (v : Byte) (s : State) : Host.Outcome State Fault Refusal :=
  runInstr 2 false (.imm v) opUsbc s

/-- *DCP, 0xC3 (indirect,X) (rules R325, R126). -/
def execDcpIndx (z : Byte) (s : State) : Host.Outcome State Fault Refusal :=
  runInstr 8 false (.indx z) opDcp s

/-- *DCP, 0xC7 zero page (rules R325, R126). -/
def execDcpZp (z : Byte) (s : State) : Host.Outcome State Fault Refusal :=
  runInstr 5 false (.zp z) opDcp s

/-- *DCP, 0xCF absolute (rules R325, R126). -/
def execDcpAbs (a : Word) (s : State) : Host.Outcome State Fault Refusal :=
  runInstr 6 false (.abs a) opDcp s

/-- *DCP, 0xD3 (indirect),Y (rules R325, R126). -/
def execDcpIndy (z : Byte) (s : State) : Host.Outcome State Fault Refusal :=
  runInstr 8 false (.indy z) opDcp s

/-- *DCP, 0xD7 zero page,X (rules R325, R126). -/
def execDcpZpx (z : Byte) (s : State) : Host.Outcome State Fault Refusal :=
  runInstr 6 false (.zpx z) opDcp s

/-- *DCP, 0xDB absolute,Y (rules R325, R126). -/
def execDcpAbsy (a : Word) (s : State) : Host.Outcome State Fault Refusal :=
  runInstr 7 false (.absy a) opDcp s

/-- *DCP, 0xDF absolute,X (rules R325, R126). -/
def execDcpAbsx (a : Word) (s : State) : Host.Outcome State Fault Refusal :=
  runInstr 7 false (.absx a) opDcp s

/-- *ISB, 0xE3 (indirect,X) (rules R326, R126). -/
def execIsbIndx (z : Byte) (s : State) : Host.Outcome State Fault Refusal :=
  runInstr 8 false (.indx z) opIsb s

/-- *ISB, 0xE7 zero page (rules R326, R126). -/
def execIsbZp (z : Byte) (s : State) : Host.Outcome State Fault Refusal :=
  runInstr 5 false (.zp z) opIsb s

/-- *ISB, 0xEF absolute (rules R326, R126). -/
def execIsbAbs (a : Word) (s : State) : Host.Outcome State Fault Refusal :=
  runInstr 6 false (.abs a) opIsb s

/-- *ISB, 0xF3 (indirect),Y (rules R326, R126). -/
def execIsbIndy (z : Byte) (s : State) : Host.Outcome State Fault Refusal :=
  runInstr 8 false (.indy z) opIsb s

/-- *ISB, 0xF7 zero page,X (rules R326, R126). -/
def execIsbZpx (z : Byte) (s : State) : Host.Outcome State Fault Refusal :=
  runInstr 6 false (.zpx z) opIsb s

/-- *ISB, 0xFB absolute,Y (rules R326, R126). -/
def execIsbAbsy (a : Word) (s : State) : Host.Outcome State Fault Refusal :=
  runInstr 7 false (.absy a) opIsb s

/-- *ISB, 0xFF absolute,X (rules R326, R126). -/
def execIsbAbsx (a : Word) (s : State) : Host.Outcome State Fault Refusal :=
  runInstr 7 false (.absx a) opIsb s

/-- *SLO, 0x03 (indirect,X) (rules R327, R126). -/
def execSloIndx (z : Byte) (s : State) : Host.Outcome State Fault Refusal :=
  runInstr 8 false (.indx z) opSlo s

/-- *SLO, 0x07 zero page (rules R327, R126). -/
def execSloZp (z : Byte) (s : State) : Host.Outcome State Fault Refusal :=
  runInstr 5 false (.zp z) opSlo s

/-- *SLO, 0x0F absolute (rules R327, R126). -/
def execSloAbs (a : Word) (s : State) : Host.Outcome State Fault Refusal :=
  runInstr 6 false (.abs a) opSlo s

/-- *SLO, 0x13 (indirect),Y (rules R327, R126). -/
def execSloIndy (z : Byte) (s : State) : Host.Outcome State Fault Refusal :=
  runInstr 8 false (.indy z) opSlo s

/-- *SLO, 0x17 zero page,X (rules R327, R126). -/
def execSloZpx (z : Byte) (s : State) : Host.Outcome State Fault Refusal :=
  runInstr 6 false (.zpx z) opSlo s

/-- *SLO, 0x1B absolute,Y (rules R327, R126). -/
def execSloAbsy (a : Word) (s : State) : Host.Outcome State Fault Refusal :=
  runInstr 7 false (.absy a) opSlo s

/-- *SLO, 0x1F absolute,X (rules R327, R126). -/
def execSloAbsx (a : Word) (s : State) : Host.Outcome State Fault Refusal :=
  runInstr 7 false (.absx a) opSlo s

/-- *RLA, 0x23 (indirect,X) (rules R328, R126). -/
def execRlaIndx (z : Byte) (s : State) : Host.Outcome State Fault Refusal :=
  runInstr 8 false (.indx z) opRla s

/-- *RLA, 0x27 zero page (rules R328, R126). -/
def execRlaZp (z : Byte) (s : State) : Host.Outcome State Fault Refusal :=
  runInstr 5 false (.zp z) opRla s

/-- *RLA, 0x2F absolute (rules R328, R126). -/
def execRlaAbs (a : Word) (s : State) : Host.Outcome State Fault Refusal :=
  runInstr 6 false (.abs a) opRla s

/-- *RLA, 0x33 (indirect),Y (rules R328, R126). -/
def execRlaIndy (z : Byte) (s : State) : Host.Outcome State Fault Refusal :=
  runInstr 8 false (.indy z) opRla s

/-- *RLA, 0x37 zero page,X (rules R328, R126). -/
def execRlaZpx (z : Byte) (s : State) : Host.Outcome State Fault Refusal :=
  runInstr 6 false (.zpx z) opRla s

/-- *RLA, 0x3B absolute,Y (rules R328, R126). -/
def execRlaAbsy (a : Word) (s : State) : Host.Outcome State Fault Refusal :=
  runInstr 7 false (.absy a) opRla s

/-- *RLA, 0x3F absolute,X (rules R328, R126). -/
def execRlaAbsx (a : Word) (s : State) : Host.Outcome State Fault Refusal :=
  runInstr 7 false (.absx a) opRla s

/-- *SRE, 0x43 (indirect,X) (rules R329, R126). -/
def execSreIndx (z : Byte) (s : State) : Host.Outcome State Fault Refusal :=
  runInstr 8 false (.indx z) opSre s

/-- *SRE, 0x47 zero page (rules R329, R126). -/
def execSreZp (z : Byte) (s : State) : Host.Outcome State Fault Refusal :=
  runInstr 5 false (.zp z) opSre s

/-- *SRE, 0x4F absolute (rules R329, R126). -/
def execSreAbs (a : Word) (s : State) : Host.Outcome State Fault Refusal :=
  runInstr 6 false (.abs a) opSre s

/-- *SRE, 0x53 (indirect),Y (rules R329, R126). -/
def execSreIndy (z : Byte) (s : State) : Host.Outcome State Fault Refusal :=
  runInstr 8 false (.indy z) opSre s

/-- *SRE, 0x57 zero page,X (rules R329, R126). -/
def execSreZpx (z : Byte) (s : State) : Host.Outcome State Fault Refusal :=
  runInstr 6 false (.zpx z) opSre s

/-- *SRE, 0x5B absolute,Y (rules R329, R126). -/
def execSreAbsy (a : Word) (s : State) : Host.Outcome State Fault Refusal :=
  runInstr 7 false (.absy a) opSre s

/-- *SRE, 0x5F absolute,X (rules R329, R126). -/
def execSreAbsx (a : Word) (s : State) : Host.Outcome State Fault Refusal :=
  runInstr 7 false (.absx a) opSre s

/-- *RRA, 0x63 (indirect,X) (rules R330, R126). -/
def execRraIndx (z : Byte) (s : State) : Host.Outcome State Fault Refusal :=
  runInstr 8 false (.indx z) opRra s

/-- *RRA, 0x67 zero page (rules R330, R126). -/
def execRraZp (z : Byte) (s : State) : Host.Outcome State Fault Refusal :=
  runInstr 5 false (.zp z) opRra s

/-- *RRA, 0x6F absolute (rules R330, R126). -/
def execRraAbs (a : Word) (s : State) : Host.Outcome State Fault Refusal :=
  runInstr 6 false (.abs a) opRra s

/-- *RRA, 0x73 (indirect),Y (rules R330, R126). -/
def execRraIndy (z : Byte) (s : State) : Host.Outcome State Fault Refusal :=
  runInstr 8 false (.indy z) opRra s

/-- *RRA, 0x77 zero page,X (rules R330, R126). -/
def execRraZpx (z : Byte) (s : State) : Host.Outcome State Fault Refusal :=
  runInstr 6 false (.zpx z) opRra s

/-- *RRA, 0x7B absolute,Y (rules R330, R126). -/
def execRraAbsy (a : Word) (s : State) : Host.Outcome State Fault Refusal :=
  runInstr 7 false (.absy a) opRra s

/-- *RRA, 0x7F absolute,X (rules R330, R126). -/
def execRraAbsx (a : Word) (s : State) : Host.Outcome State Fault Refusal :=
  runInstr 7 false (.absx a) opRra s

end Sys2Proof.Machine
end

