-- ==== Sys2Proof/Machine/Dispatch.lean ====
section
/-! DEFINITION. Machine/Dispatch.lean: which meaning an instruction has (rules R45, R126, R150). -/

namespace Sys2Proof.Machine

/-- One whole instruction (rule R150), from a state whose PC is the address of the opcode byte. -/
def exec (i : Instr) (s : State) : Host.Outcome State Fault Refusal :=
  match i with
  | .ldaIndx z => Sys2Proof.Machine.execLdaIndx z s
  | .ldaZp z => Sys2Proof.Machine.execLdaZp z s
  | .ldaImm v => Sys2Proof.Machine.execLdaImm v s
  | .ldaAbs a => Sys2Proof.Machine.execLdaAbs a s
  | .ldaIndy z => Sys2Proof.Machine.execLdaIndy z s
  | .ldaZpx z => Sys2Proof.Machine.execLdaZpx z s
  | .ldaAbsy a => Sys2Proof.Machine.execLdaAbsy a s
  | .ldaAbsx a => Sys2Proof.Machine.execLdaAbsx a s
  | .ldxImm v => Sys2Proof.Machine.execLdxImm v s
  | .ldxZp z => Sys2Proof.Machine.execLdxZp z s
  | .ldxAbs a => Sys2Proof.Machine.execLdxAbs a s
  | .ldxZpy z => Sys2Proof.Machine.execLdxZpy z s
  | .ldxAbsy a => Sys2Proof.Machine.execLdxAbsy a s
  | .ldyImm v => Sys2Proof.Machine.execLdyImm v s
  | .ldyZp z => Sys2Proof.Machine.execLdyZp z s
  | .ldyAbs a => Sys2Proof.Machine.execLdyAbs a s
  | .ldyZpx z => Sys2Proof.Machine.execLdyZpx z s
  | .ldyAbsx a => Sys2Proof.Machine.execLdyAbsx a s
  | .staIndx z => Sys2Proof.Machine.execStaIndx z s
  | .staZp z => Sys2Proof.Machine.execStaZp z s
  | .staAbs a => Sys2Proof.Machine.execStaAbs a s
  | .staIndy z => Sys2Proof.Machine.execStaIndy z s
  | .staZpx z => Sys2Proof.Machine.execStaZpx z s
  | .staAbsy a => Sys2Proof.Machine.execStaAbsy a s
  | .staAbsx a => Sys2Proof.Machine.execStaAbsx a s
  | .stxZp z => Sys2Proof.Machine.execStxZp z s
  | .stxAbs a => Sys2Proof.Machine.execStxAbs a s
  | .stxZpy z => Sys2Proof.Machine.execStxZpy z s
  | .styZp z => Sys2Proof.Machine.execStyZp z s
  | .styAbs a => Sys2Proof.Machine.execStyAbs a s
  | .styZpx z => Sys2Proof.Machine.execStyZpx z s
  | .tax => Sys2Proof.Machine.execTax s
  | .tay => Sys2Proof.Machine.execTay s
  | .txa => Sys2Proof.Machine.execTxa s
  | .tya => Sys2Proof.Machine.execTya s
  | .tsx => Sys2Proof.Machine.execTsx s
  | .txs => Sys2Proof.Machine.execTxs s
  | .adcIndx z => Sys2Proof.Machine.execAdcIndx z s
  | .adcZp z => Sys2Proof.Machine.execAdcZp z s
  | .adcImm v => Sys2Proof.Machine.execAdcImm v s
  | .adcAbs a => Sys2Proof.Machine.execAdcAbs a s
  | .adcIndy z => Sys2Proof.Machine.execAdcIndy z s
  | .adcZpx z => Sys2Proof.Machine.execAdcZpx z s
  | .adcAbsy a => Sys2Proof.Machine.execAdcAbsy a s
  | .adcAbsx a => Sys2Proof.Machine.execAdcAbsx a s
  | .sbcIndx z => Sys2Proof.Machine.execSbcIndx z s
  | .sbcZp z => Sys2Proof.Machine.execSbcZp z s
  | .sbcImm v => Sys2Proof.Machine.execSbcImm v s
  | .sbcAbs a => Sys2Proof.Machine.execSbcAbs a s
  | .sbcIndy z => Sys2Proof.Machine.execSbcIndy z s
  | .sbcZpx z => Sys2Proof.Machine.execSbcZpx z s
  | .sbcAbsy a => Sys2Proof.Machine.execSbcAbsy a s
  | .sbcAbsx a => Sys2Proof.Machine.execSbcAbsx a s
  | .andIndx z => Sys2Proof.Machine.execAndIndx z s
  | .andZp z => Sys2Proof.Machine.execAndZp z s
  | .andImm v => Sys2Proof.Machine.execAndImm v s
  | .andAbs a => Sys2Proof.Machine.execAndAbs a s
  | .andIndy z => Sys2Proof.Machine.execAndIndy z s
  | .andZpx z => Sys2Proof.Machine.execAndZpx z s
  | .andAbsy a => Sys2Proof.Machine.execAndAbsy a s
  | .andAbsx a => Sys2Proof.Machine.execAndAbsx a s
  | .oraIndx z => Sys2Proof.Machine.execOraIndx z s
  | .oraZp z => Sys2Proof.Machine.execOraZp z s
  | .oraImm v => Sys2Proof.Machine.execOraImm v s
  | .oraAbs a => Sys2Proof.Machine.execOraAbs a s
  | .oraIndy z => Sys2Proof.Machine.execOraIndy z s
  | .oraZpx z => Sys2Proof.Machine.execOraZpx z s
  | .oraAbsy a => Sys2Proof.Machine.execOraAbsy a s
  | .oraAbsx a => Sys2Proof.Machine.execOraAbsx a s
  | .eorIndx z => Sys2Proof.Machine.execEorIndx z s
  | .eorZp z => Sys2Proof.Machine.execEorZp z s
  | .eorImm v => Sys2Proof.Machine.execEorImm v s
  | .eorAbs a => Sys2Proof.Machine.execEorAbs a s
  | .eorIndy z => Sys2Proof.Machine.execEorIndy z s
  | .eorZpx z => Sys2Proof.Machine.execEorZpx z s
  | .eorAbsy a => Sys2Proof.Machine.execEorAbsy a s
  | .eorAbsx a => Sys2Proof.Machine.execEorAbsx a s
  | .cmpIndx z => Sys2Proof.Machine.execCmpIndx z s
  | .cmpZp z => Sys2Proof.Machine.execCmpZp z s
  | .cmpImm v => Sys2Proof.Machine.execCmpImm v s
  | .cmpAbs a => Sys2Proof.Machine.execCmpAbs a s
  | .cmpIndy z => Sys2Proof.Machine.execCmpIndy z s
  | .cmpZpx z => Sys2Proof.Machine.execCmpZpx z s
  | .cmpAbsy a => Sys2Proof.Machine.execCmpAbsy a s
  | .cmpAbsx a => Sys2Proof.Machine.execCmpAbsx a s
  | .cpxImm v => Sys2Proof.Machine.execCpxImm v s
  | .cpxZp z => Sys2Proof.Machine.execCpxZp z s
  | .cpxAbs a => Sys2Proof.Machine.execCpxAbs a s
  | .cpyImm v => Sys2Proof.Machine.execCpyImm v s
  | .cpyZp z => Sys2Proof.Machine.execCpyZp z s
  | .cpyAbs a => Sys2Proof.Machine.execCpyAbs a s
  | .bitZp z => Sys2Proof.Machine.execBitZp z s
  | .bitAbs a => Sys2Proof.Machine.execBitAbs a s
  | .aslZp z => Sys2Proof.Machine.execAslZp z s
  | .aslAcc => Sys2Proof.Machine.execAslAcc s
  | .aslAbs a => Sys2Proof.Machine.execAslAbs a s
  | .aslZpx z => Sys2Proof.Machine.execAslZpx z s
  | .aslAbsx a => Sys2Proof.Machine.execAslAbsx a s
  | .lsrZp z => Sys2Proof.Machine.execLsrZp z s
  | .lsrAcc => Sys2Proof.Machine.execLsrAcc s
  | .lsrAbs a => Sys2Proof.Machine.execLsrAbs a s
  | .lsrZpx z => Sys2Proof.Machine.execLsrZpx z s
  | .lsrAbsx a => Sys2Proof.Machine.execLsrAbsx a s
  | .rolZp z => Sys2Proof.Machine.execRolZp z s
  | .rolAcc => Sys2Proof.Machine.execRolAcc s
  | .rolAbs a => Sys2Proof.Machine.execRolAbs a s
  | .rolZpx z => Sys2Proof.Machine.execRolZpx z s
  | .rolAbsx a => Sys2Proof.Machine.execRolAbsx a s
  | .rorZp z => Sys2Proof.Machine.execRorZp z s
  | .rorAcc => Sys2Proof.Machine.execRorAcc s
  | .rorAbs a => Sys2Proof.Machine.execRorAbs a s
  | .rorZpx z => Sys2Proof.Machine.execRorZpx z s
  | .rorAbsx a => Sys2Proof.Machine.execRorAbsx a s
  | .incZp z => Sys2Proof.Machine.execIncZp z s
  | .incAbs a => Sys2Proof.Machine.execIncAbs a s
  | .incZpx z => Sys2Proof.Machine.execIncZpx z s
  | .incAbsx a => Sys2Proof.Machine.execIncAbsx a s
  | .decZp z => Sys2Proof.Machine.execDecZp z s
  | .decAbs a => Sys2Proof.Machine.execDecAbs a s
  | .decZpx z => Sys2Proof.Machine.execDecZpx z s
  | .decAbsx a => Sys2Proof.Machine.execDecAbsx a s
  | .inx => Sys2Proof.Machine.execInx s
  | .iny => Sys2Proof.Machine.execIny s
  | .dex => Sys2Proof.Machine.execDex s
  | .dey => Sys2Proof.Machine.execDey s
  | .bcc d => Sys2Proof.Machine.execBcc d s
  | .bcs d => Sys2Proof.Machine.execBcs d s
  | .beq d => Sys2Proof.Machine.execBeq d s
  | .bne d => Sys2Proof.Machine.execBne d s
  | .bmi d => Sys2Proof.Machine.execBmi d s
  | .bpl d => Sys2Proof.Machine.execBpl d s
  | .bvc d => Sys2Proof.Machine.execBvc d s
  | .bvs d => Sys2Proof.Machine.execBvs d s
  | .jmpAbs a => Sys2Proof.Machine.execJmpAbs a s
  | .jmpInd a => Sys2Proof.Machine.execJmpInd a s
  | .jsrAbs a => Sys2Proof.Machine.execJsrAbs a s
  | .rts => Sys2Proof.Machine.execRts s
  | .rti => Sys2Proof.Machine.execRti s
  | .brk => Sys2Proof.Machine.execBrk s
  | .pha => Sys2Proof.Machine.execPha s
  | .php => Sys2Proof.Machine.execPhp s
  | .pla => Sys2Proof.Machine.execPla s
  | .plp => Sys2Proof.Machine.execPlp s
  | .clc => Sys2Proof.Machine.execClc s
  | .sec => Sys2Proof.Machine.execSec s
  | .cli => Sys2Proof.Machine.execCli s
  | .sei => Sys2Proof.Machine.execSei s
  | .cld => Sys2Proof.Machine.execCld s
  | .sed => Sys2Proof.Machine.execSed s
  | .clv => Sys2Proof.Machine.execClv s
  | .nop => Sys2Proof.Machine.execNop s
  | .unopZp04 z => Sys2Proof.Machine.execUnopZp04 z s
  | .unopAbs0C a => Sys2Proof.Machine.execUnopAbs0C a s
  | .unopZpx14 z => Sys2Proof.Machine.execUnopZpx14 z s
  | .unopImp1A => Sys2Proof.Machine.execUnopImp1A s
  | .unopAbsx1C a => Sys2Proof.Machine.execUnopAbsx1C a s
  | .unopZpx34 z => Sys2Proof.Machine.execUnopZpx34 z s
  | .unopImp3A => Sys2Proof.Machine.execUnopImp3A s
  | .unopAbsx3C a => Sys2Proof.Machine.execUnopAbsx3C a s
  | .unopZp44 z => Sys2Proof.Machine.execUnopZp44 z s
  | .unopZpx54 z => Sys2Proof.Machine.execUnopZpx54 z s
  | .unopImp5A => Sys2Proof.Machine.execUnopImp5A s
  | .unopAbsx5C a => Sys2Proof.Machine.execUnopAbsx5C a s
  | .unopZp64 z => Sys2Proof.Machine.execUnopZp64 z s
  | .unopZpx74 z => Sys2Proof.Machine.execUnopZpx74 z s
  | .unopImp7A => Sys2Proof.Machine.execUnopImp7A s
  | .unopAbsx7C a => Sys2Proof.Machine.execUnopAbsx7C a s
  | .unopImm80 v => Sys2Proof.Machine.execUnopImm80 v s
  | .unopImm82 v => Sys2Proof.Machine.execUnopImm82 v s
  | .unopImm89 v => Sys2Proof.Machine.execUnopImm89 v s
  | .unopImmC2 v => Sys2Proof.Machine.execUnopImmC2 v s
  | .unopZpxD4 z => Sys2Proof.Machine.execUnopZpxD4 z s
  | .unopImpDA => Sys2Proof.Machine.execUnopImpDA s
  | .unopAbsxDC a => Sys2Proof.Machine.execUnopAbsxDC a s
  | .unopImmE2 v => Sys2Proof.Machine.execUnopImmE2 v s
  | .unopZpxF4 z => Sys2Proof.Machine.execUnopZpxF4 z s
  | .unopImpFA => Sys2Proof.Machine.execUnopImpFA s
  | .unopAbsxFC a => Sys2Proof.Machine.execUnopAbsxFC a s
  | .laxIndx z => Sys2Proof.Machine.execLaxIndx z s
  | .laxZp z => Sys2Proof.Machine.execLaxZp z s
  | .laxAbs a => Sys2Proof.Machine.execLaxAbs a s
  | .laxIndy z => Sys2Proof.Machine.execLaxIndy z s
  | .laxZpy z => Sys2Proof.Machine.execLaxZpy z s
  | .laxAbsy a => Sys2Proof.Machine.execLaxAbsy a s
  | .saxIndx z => Sys2Proof.Machine.execSaxIndx z s
  | .saxZp z => Sys2Proof.Machine.execSaxZp z s
  | .saxAbs a => Sys2Proof.Machine.execSaxAbs a s
  | .saxZpy z => Sys2Proof.Machine.execSaxZpy z s
  | .usbcImm v => Sys2Proof.Machine.execUsbcImm v s
  | .dcpIndx z => Sys2Proof.Machine.execDcpIndx z s
  | .dcpZp z => Sys2Proof.Machine.execDcpZp z s
  | .dcpAbs a => Sys2Proof.Machine.execDcpAbs a s
  | .dcpIndy z => Sys2Proof.Machine.execDcpIndy z s
  | .dcpZpx z => Sys2Proof.Machine.execDcpZpx z s
  | .dcpAbsy a => Sys2Proof.Machine.execDcpAbsy a s
  | .dcpAbsx a => Sys2Proof.Machine.execDcpAbsx a s
  | .isbIndx z => Sys2Proof.Machine.execIsbIndx z s
  | .isbZp z => Sys2Proof.Machine.execIsbZp z s
  | .isbAbs a => Sys2Proof.Machine.execIsbAbs a s
  | .isbIndy z => Sys2Proof.Machine.execIsbIndy z s
  | .isbZpx z => Sys2Proof.Machine.execIsbZpx z s
  | .isbAbsy a => Sys2Proof.Machine.execIsbAbsy a s
  | .isbAbsx a => Sys2Proof.Machine.execIsbAbsx a s
  | .sloIndx z => Sys2Proof.Machine.execSloIndx z s
  | .sloZp z => Sys2Proof.Machine.execSloZp z s
  | .sloAbs a => Sys2Proof.Machine.execSloAbs a s
  | .sloIndy z => Sys2Proof.Machine.execSloIndy z s
  | .sloZpx z => Sys2Proof.Machine.execSloZpx z s
  | .sloAbsy a => Sys2Proof.Machine.execSloAbsy a s
  | .sloAbsx a => Sys2Proof.Machine.execSloAbsx a s
  | .rlaIndx z => Sys2Proof.Machine.execRlaIndx z s
  | .rlaZp z => Sys2Proof.Machine.execRlaZp z s
  | .rlaAbs a => Sys2Proof.Machine.execRlaAbs a s
  | .rlaIndy z => Sys2Proof.Machine.execRlaIndy z s
  | .rlaZpx z => Sys2Proof.Machine.execRlaZpx z s
  | .rlaAbsy a => Sys2Proof.Machine.execRlaAbsy a s
  | .rlaAbsx a => Sys2Proof.Machine.execRlaAbsx a s
  | .sreIndx z => Sys2Proof.Machine.execSreIndx z s
  | .sreZp z => Sys2Proof.Machine.execSreZp z s
  | .sreAbs a => Sys2Proof.Machine.execSreAbs a s
  | .sreIndy z => Sys2Proof.Machine.execSreIndy z s
  | .sreZpx z => Sys2Proof.Machine.execSreZpx z s
  | .sreAbsy a => Sys2Proof.Machine.execSreAbsy a s
  | .sreAbsx a => Sys2Proof.Machine.execSreAbsx a s
  | .rraIndx z => Sys2Proof.Machine.execRraIndx z s
  | .rraZp z => Sys2Proof.Machine.execRraZp z s
  | .rraAbs a => Sys2Proof.Machine.execRraAbs a s
  | .rraIndy z => Sys2Proof.Machine.execRraIndy z s
  | .rraZpx z => Sys2Proof.Machine.execRraZpx z s
  | .rraAbsy a => Sys2Proof.Machine.execRraAbsy a s
  | .rraAbsx a => Sys2Proof.Machine.execRraAbsx a s

end Sys2Proof.Machine
end

