-- ==== Sys2Proof/Machine/Rendering.lean ====
section
/-! DEFINITION. Machine/Rendering.lean: one dot of the picture engine (spec/51_ppu_rendering.md): the background
pipeline, scroll updates, sprites, pixel output, status events and the counters. -/

namespace Sys2Proof.Machine

/-- A visible line (rule R402). -/
def visibleLine (p : Ppu) : Bool := decide (p.scanline < 240)

/-- The pre-render line (rule R402). -/
def preRenderLine (p : Ppu) : Bool := p.scanline == 261

/-- A render line with rendering enabled (rules R402, R403). -/
def rendering (p : Ppu) : Bool := (visibleLine p || preRenderLine p) && renderingEnabled p

/-- `lo ≤ dot ≤ hi` -/
def dotIn (p : Ppu) (lo hi : Nat) : Bool := decide (lo ≤ p.dot) && decide (p.dot ≤ hi)

/-- Shift dots (rule R406). -/
def shiftDot (p : Ppu) : Bool := dotIn p 2 257 || dotIn p 322 337

/-- Reload dots (rule R407). -/
def reloadDot (p : Ppu) : Bool := (dotIn p 9 257 && p.dot % 8 == 1) || p.dot == 329 || p.dot == 337

/-- Fetch dots (rule R404). -/
def fetchDot (p : Ppu) : Bool := dotIn p 1 256 || dotIn p 321 336

/-- The shift (rule R406). -/
def shiftRegisters (p : Ppu) : Ppu :=
  { p with
    bgLo := p.bgLo <<< 1
    bgHi := p.bgHi <<< 1
    atLo := (p.atLo <<< 1) ||| p.atLatchLo.setWidth 8
    atHi := (p.atHi <<< 1) ||| p.atLatchHi.setWidth 8 }

/-- The reload (rule R407). -/
def reloadRegisters (p : Ppu) : Ppu :=
  { p with
    bgLo := (p.bgLo &&& 0xFF00) ||| p.ptLoLatch.setWidth 16
    bgHi := (p.bgHi &&& 0xFF00) ||| p.ptHiLatch.setWidth 16
    atLatchLo := p.atBits.extractLsb' 0 1
    atLatchHi := p.atBits.extractLsb' 1 1 }

/-- Where the name-table byte lies (rule R408). -/
def nameTableAddr (v : BitVec 15) : Nat := 0x2000 + v.toNat % 0x1000

/-- Where the attribute byte lies (rule R409). -/
def attrAddr (v : BitVec 15) : Nat :=
  (0x23C0#15 ||| (v &&& 0x0C00) ||| ((v >>> 4) &&& 0x38) ||| ((v >>> 2) &&& 0x07)).toNat

/-- The attribute byte's shift: the quadrant (rule R409). -/
def attrShift (v : BitVec 15) : Nat := (((v >>> 4) &&& 0x04) ||| (v &&& 0x02)).toNat

/-- Where the low pattern byte lies (rule R410). -/
def patternAddr (p : Ppu) : Nat :=
  (p.ctrl.getLsbD 4).toNat * 0x1000 + p.ntLatch.toNat * 16 + (p.v >>> 12).toNat % 8

/-- The background fetch of a fetch dot (rules R404, R408-R411). -/
def backgroundFetch (s : State) : Ppu :=
  let p := s.ppu
  match p.dot % 8 with
  | 1 => { p with ntLatch := ppuRead s (nameTableAddr p.v) }
  | 3 => { p with atBits := (ppuRead s (attrAddr p.v) >>> attrShift p.v).setWidth 2 }
  | 5 => { p with ptLoLatch := ppuRead s (patternAddr p) }
  | 7 => { p with ptHiLatch := ppuRead s (patternAddr p + 8) }
  | _ => p

/-- The coarse-X increment of `v` (rule R412). -/
def coarseXNext (v : BitVec 15) : BitVec 15 :=
  if v &&& 0x001F = 31 then (v &&& ~~~0x001F#15) ^^^ 0x0400 else v + 1

/-- The vertical increment of `v` (rule R413). -/
def verticalNext (v : BitVec 15) : BitVec 15 :=
  if v &&& 0x7000 ≠ 0x7000 then v + 0x1000
  else
    let v := v &&& ~~~0x7000#15
    let cy := (v &&& 0x03E0) >>> 5
    if cy = 29 then (v ^^^ 0x0800) &&& ~~~0x03E0#15
    else if cy = 31 then v &&& ~~~0x03E0#15
    else (v &&& ~~~0x03E0#15) ||| ((cy + 1) <<< 5)

/-- The horizontal copy (rule R414). -/
def horizontalCopy (v t : BitVec 15) : BitVec 15 := (v &&& ~~~0x041F#15) ||| (t &&& 0x041F)

/-- The vertical copy (rule R415). -/
def verticalCopy (v t : BitVec 15) : BitVec 15 := (v &&& ~~~0x7BE0#15) ||| (t &&& 0x7BE0)

/-- The scroll updates of one dot of a render line (rules R412-R415), in this order. -/
def scrollNext (p : Ppu) : BitVec 15 :=
  let v := if fetchDot p && p.dot % 8 == 0 then coarseXNext p.v else p.v
  let v := if p.dot == 256 then verticalNext v else v
  let v := if p.dot == 257 then horizontalCopy v p.t else v
  if preRenderLine p && p.dot == 280 then verticalCopy v p.t else v

/-- Sprite height (rule R421). -/
def spriteHeight (p : Ppu) : Nat := if p.ctrl.getLsbD 5 then 16 else 8

/-- The evaluation loop (rule R422): `left` sprites still to look at, the next being number 64 - `left`. -/
def evaluateFrom (p : Ppu) : Nat → List SpriteEntry → List SpriteEntry × Bool
  | 0, found => (found, false)
  | left + 1, found =>
    let n := 64 - (left + 1)
    let sy := p.oam.read (4 * n)
    if sy.toNat ≤ p.scanline ∧ p.scanline < sy.toNat + spriteHeight p then
      if found.length < 8 then
        evaluateFrom p left (found ++
          [{ y := sy, tile := p.oam.read (4 * n + 1), attr := p.oam.read (4 * n + 2), x := p.oam.read (4 * n + 3),
             isSprite0 := n == 0 }])
      else (found, true)
    else evaluateFrom p left found

/-- Sprite evaluation (rule R422). -/
def evaluateSprites (p : Ppu) : Ppu :=
  let r := evaluateFrom p 64 p.secondary
  { p with secondary := r.1, spriteOverflow := p.spriteOverflow || r.2 }

/-- `Reverse8` (rule R424). -/
def reverse8 (b : Byte) : Byte :=
  b.extractLsb' 0 1 ++ b.extractLsb' 1 1 ++ b.extractLsb' 2 1 ++ b.extractLsb' 3 1
    ++ b.extractLsb' 4 1 ++ b.extractLsb' 5 1 ++ b.extractLsb' 6 1 ++ b.extractLsb' 7 1

/-- The row of a sprite on the current line, flipped if its attribute says so (rules R423, R424). -/
def spriteRow (p : Ppu) (e : SpriteEntry) : Int :=
  let row : Int := (p.scanline : Int) - e.y.toNat
  if e.attr.getLsbD 7 then (spriteHeight p : Int) - 1 - row else row

/-- Where the low pattern byte of a sprite lies (rule R424): any integer, reduced by the picture-side router (DEDUCED,
safe: log entry 14). -/
def spriteAddr (p : Ppu) (e : SpriteEntry) : Int :=
  let row := spriteRow p e
  if p.ctrl.getLsbD 5 then
    let base : Int := ((e.tile &&& 0x01).toNat * 0x1000 : Nat)
    let t2 : Int := (e.tile &&& 0xFE).toNat
    if 8 ≤ row then base + (t2 + 1) * 16 + (row - 8) else base + t2 * 16 + row
  else ((p.ctrl.getLsbD 3).toNat * 0x1000 + e.tile.toNat * 16 : Nat) + row

/-- `PpuRead` of any integer address (rule R91). -/
def ppuReadInt (s : State) (a : Int) : Byte := ppuRead s (a % 0x4000).toNat

/-- One sprite's fetch (rule R424). -/
def fetchSprite (s : State) (e : SpriteEntry) : SpriteUnit :=
  let a := spriteAddr s.ppu e
  let lo := ppuReadInt s a
  let hi := ppuReadInt s (a + 8)
  { x := e.x
    patternLo := if e.attr.getLsbD 6 then reverse8 lo else lo
    patternHi := if e.attr.getLsbD 6 then reverse8 hi else hi
    palette := e.attr.setWidth 2
    behindBg := e.attr.getLsbD 5
    isSprite0 := e.isSprite0 }

/-- The sprite work of one dot (rules R420-R426). -/
def spriteWork (s : State) : Ppu :=
  if preRenderLine s.ppu then
    if s.ppu.dot == 257 then { s.ppu with units := [] } else s.ppu
  else if s.ppu.dot == 1 then { s.ppu with secondary := [] }
  else if s.ppu.dot == 65 then evaluateSprites s.ppu
  else if s.ppu.dot == 257 then { s.ppu with units := s.ppu.secondary.map (fetchSprite s) }
  else s.ppu

/-- The background pixel's pattern and palette bits (rule R431). -/
def backgroundPixel (p : Ppu) (x : Nat) : Nat × Nat :=
  let f := p.x.toNat
  if p.mask.getLsbD 3 && (decide (8 ≤ x) || p.mask.getLsbD 1) then
    ((p.bgHi.getLsbD (15 - f)).toNat * 2 + (p.bgLo.getLsbD (15 - f)).toNat,
     (p.atHi.getLsbD (7 - f)).toNat * 2 + (p.atLo.getLsbD (7 - f)).toNat)
  else (0, 0)

/-- The pattern bits a sprite unit shows at `x`; 0 outside its eight columns (rule R432). -/
def unitPixel (u : SpriteUnit) (x : Nat) : Nat :=
  if u.x.toNat ≤ x ∧ x < u.x.toNat + 8 then
    (u.patternHi.getLsbD (7 - (x - u.x.toNat))).toNat * 2 + (u.patternLo.getLsbD (7 - (x - u.x.toNat))).toNat
  else 0

/-- The first output unit with an opaque pixel at `x` (rule R432). -/
def spritePixel (p : Ppu) (x : Nat) : Option SpriteUnit :=
  if p.mask.getLsbD 4 && (decide (8 ≤ x) || p.mask.getLsbD 2) then
    p.units.find? fun u => unitPixel u x != 0
  else none

/-- The palette address of a pixel and whether it hits sprite zero, before the x exception (rule R433). -/
def paletteMux (bp bpal sp spal : Nat) (behind sprite0 : Bool) : Nat × Bool :=
  if sp = 0 then (if bp = 0 then 0x3F00 else 0x3F00 + 4 * bpal + bp, false)
  else if bp = 0 then (0x3F10 + 4 * spal + sp, false)
  else (if behind then 0x3F00 + 4 * bpal + bp else 0x3F10 + 4 * spal + sp, sprite0)

/-- The pixel at `x` as rules R431-R434 compose it: the palette address, and whether sprite zero is hit. -/
def composePixel (p : Ppu) (x : Nat) : Nat × Bool :=
  let bg := backgroundPixel p x
  match spritePixel p x with
  | none => paletteMux bg.1 bg.2 0 0 false false
  | some u =>
    let m := paletteMux bg.1 bg.2 (unitPixel u x) u.palette.toNat u.behindBg u.isSprite0
    (m.1, m.2 && x != 255)

/-- The arguments of `SYSTEM_PALETTE` for a palette address (rule R435). -/
def pixelColour (s : State) (a : Nat) : Pixel :=
  let c := (ppuRead s a).setWidth 6
  { index := if s.ppu.mask.getLsbD 0 then c &&& 0x30 else c
    emphasis := s.ppu.mask.extractLsb' 5 3 }

/-- Pixel output (rules R430-R436). -/
def outputPixel (s : State) : Ppu :=
  let x := s.ppu.dot - 1
  let m := composePixel s.ppu x
  { s.ppu with
    frame := frameSet s.ppu.frame s.ppu.scanline x (pixelColour s m.1)
    sprite0Hit := s.ppu.sprite0Hit || m.2 }

/-- The shift's turn in a dot (rule R403, step 1). -/
def shiftStage (s : State) : State :=
  if rendering s.ppu && shiftDot s.ppu then s.setPpu (shiftRegisters s.ppu) else s

/-- The pixel output's turn (rule R403, step 2), whatever the mask. -/
def pixelStage (s : State) : State :=
  if visibleLine s.ppu && dotIn s.ppu 1 256 then s.setPpu (outputPixel s) else s

/-- The reload's turn (rule R403, step 3). -/
def reloadStage (s : State) : State :=
  if rendering s.ppu && reloadDot s.ppu then s.setPpu (reloadRegisters s.ppu) else s

/-- The background fetch's turn (rule R403, step 4). -/
def fetchStage (s : State) : State :=
  if rendering s.ppu && fetchDot s.ppu then s.setPpu (backgroundFetch s) else s

/-- The scroll updates' turn (rule R403, step 5). -/
def scrollStage (s : State) : State :=
  if rendering s.ppu then s.setPpu { s.ppu with v := scrollNext s.ppu } else s

/-- The sprite work's turn (rule R403, step 6). -/
def spriteStage (s : State) : State :=
  if rendering s.ppu then s.setPpu (spriteWork s) else s

/-- Vblank begins (rules R440, R442): the flag, the NMI, and the handing over of the finished frame, which
leaves the frame buffer as it is (DEDUCED, safe: log entry 17). -/
def vblankStart (s : State) : State :=
  { s with
    ppu := { s.ppu with vblank := true }
    nmiPending := s.nmiPending || s.ppu.ctrl.getLsbD 7
    host := { s.host with framesDone := s.host.framesDone + 1, presented := s.ppu.frame } }

/-- The status events, on every line whatever the mask (rules R440, R441). -/
def statusStage (s : State) : State :=
  if s.ppu.scanline == 241 && s.ppu.dot == 1 then vblankStart s
  else if s.ppu.scanline == 261 && s.ppu.dot == 1 then
    s.setPpu { s.ppu with vblank := false, sprite0Hit := false, spriteOverflow := false }
  else s

/-- `SkipAllowed()` (rule R401). -/
def skipAllowed (s : State) : Bool := s.params.oddFrameSkip == .always || renderingEnabled s.ppu

/-- `Advance()` (rule R401), and the count of ticks. -/
def advance (s : State) : State :=
  let p := { s.ppu with ticks := s.ppu.ticks + 1 }
  if s.ppu.scanline == 261 && s.ppu.dot == 339 && s.ppu.oddFrame && skipAllowed s then
    s.setPpu { p with scanline := 0, dot := 0, oddFrame := false }
  else if s.ppu.dot + 1 != 341 then s.setPpu { p with dot := s.ppu.dot + 1 }
  else if s.ppu.scanline + 1 != 262 then s.setPpu { p with dot := 0, scanline := s.ppu.scanline + 1 }
  else s.setPpu { p with dot := 0, scanline := 0, oddFrame := !s.ppu.oddFrame }

/-- The work of the current dot (rule R403). -/
def dotWork (s : State) : State :=
  statusStage (spriteStage (scrollStage (fetchStage (reloadStage (pixelStage (shiftStage s))))))

/-- `PpuTick()` (rule R400). -/
def ppuTick (s : State) : State := advance (dotWork s)

/-- `repeat n times: PpuTick()` -/
def ppuTicks : Nat → State → State
  | 0, s => s
  | n + 1, s => ppuTicks n (ppuTick s)

end Sys2Proof.Machine
end

