-- ==== Sys2Proof/Machine/Driver.lean ====
section
/-! DEFINITION. Machine/Driver.lean: fetching an instruction (rules R123, R150), the interrupt check (rules R464,
R492), the end of a driver step (rule R462), and placing an instruction where the next fetch finds it. -/

namespace Sys2Proof.Machine

/-- PC while the byte after the opcode at `pc` is read (rules R150-R163): still at the opcode for a byte the mode
function reads, past the instruction for an immediate byte, which `Operand()` reads after the mode function has moved
PC (rule R153; for *NOP DEDUCED, log entry 10). -/
def operandReadPc (pc : Word) : Operand → Word
  | .imm _ => pc + 2
  | .imp | .acc | .zp _ | .zpx _ | .zpy _ | .abs _ | .absx _ | .absy _ | .ind _ | .indx _ | .indy _ | .rel _ => pc

/-- The opcode byte and the operand bytes of the instruction at PC, each read over the bus, in order, with its side
effects (rules R123, R150, R153-R163). The instruction then runs from PC at the opcode; a fatal read leaves PC where
the pseudocode had brought it (rule R495). That all operand bytes are read here is a DESIGN CHOICE, safe (log entries
10 and 11). -/
def fetchInstr (s : State) : Res Instr :=
  (memRead s s.cpu.pc).bind fun op s1 =>
    match formOf s.params.unofficial op with
    | none => .fatal (.unmappedOpcode op s.cpu.pc) s1
    | some (.imp i) => .ok i s1
    | some (.byte mk) =>
      ((memRead s1 (s.cpu.pc + 1)).faultIn fun t => t.setPc (operandReadPc s.cpu.pc (mk 0x00).operand)).bind
        fun b s2 => .ok (mk b) s2
    | some (.word mk) => (memRead16 s1 (s.cpu.pc + 1)).bind fun w s2 => .ok (mk w) s2

/-- The level of `irq_line` at this check, sampled once (rules R469, R471; DESIGN CHOICE, safe: log entry 9). -/
def irqLevel (s : State) : Bool := s.host.irqLevels.headD false

/-- The host's next levels. -/
def dropIrqLevel (s : State) : State := s.setHost { s.host with irqLevels := s.host.irqLevels.tail }

/-- `InterruptCheck()` (rule R492): NMI before IRQ, at most one entry, its 7 cycles as 21 dots. -/
def interruptCheck (s : State) : Res Unit :=
  let s1 := dropIrqLevel s
  if s.nmiPending then
    (interruptEntry (s1.setNmiPending false) nmiVector).bind fun _ s2 => .ok () (ppuTicks 21 s2)
  else if irqLevel s && !s.cpu.i then
    (interruptEntry s1 irqVector).bind fun _ s2 => .ok () (ppuTicks 21 s2)
  else .ok () s1

/-- What follows `CpuStep` in a driver step (rule R462): three dots for each cycle of the instruction, from the state
`s` before it to the state `t` after it, then the interrupt check. -/
def finishStep (s t : State) : Host.Outcome State Fault Refusal :=
  (interruptCheck (ppuTicks (3 * (t.cpu.cycles - s.cpu.cycles)) t)).outcome

/-- A step ends where its instruction faults or is refused (rules R462, R495). -/
def afterExec (s : State) (r : Host.Outcome State Fault Refusal) : Host.Outcome State Fault Refusal :=
  match r with
  | .next t => finishStep s t
  | .fault f => .fault f
  | .refused f => .refused f

/-- Put a byte where a CPU read of plain memory finds it: work RAM, static RAM or program ROM (rules R73, R79, R80).
Elsewhere nothing can be put. -/
def pokeByte (s : State) (a : Word) (b : Byte) : State :=
  if 0x8000 ≤ a.toNat then
    { s with cart := { s.cart with prg := s.cart.prg.write ((a.toNat - 0x8000) % s.cart.prgSize.bytes) b } }
  else if 0x6000 ≤ a.toNat then s.setSram (s.sram.write (a.toNat - 0x6000) b)
  else if a.toNat < 0x2000 then s.setWram (s.wram.write (a.toNat % 0x800) b)
  else s

/-- Whether a CPU address is plain memory: work RAM, static RAM or program ROM. -/
def plainAddr (a : Word) : Bool := decide (a.toNat < 0x2000) || decide (0x6000 ≤ a.toNat)

/-- Put bytes at consecutive addresses. -/
def pokeBytes (s : State) (a : Word) : List Byte → State
  | [] => s
  | b :: bs => pokeBytes (pokeByte s a b) (a + 1) bs

/-- Where `placeInstr` puts an instruction: at PC, if its three bytes are plain memory there. -/
def placeAddr (s : State) : Word :=
  if plainAddr s.cpu.pc && plainAddr (s.cpu.pc + 1) && plainAddr (s.cpu.pc + 2) then s.cpu.pc else 0x0200

/-- Load the bytes of an instruction where the next fetch reads them. An opcode that only `UNOFFICIAL_OPCODES =
nestest` maps (rule R320) selects that setting, since the default refuses its fetch (DESIGN CHOICE: log
entries 2 and 3). -/
def placeInstr (s : State) (bytes : List Byte) : State :=
  let s1 := pokeBytes (s.setPc (placeAddr s)) (placeAddr s) bytes
  match slotOf (bytes.headD 0) with
  | .unofficial _ => { s1 with params := { s1.params with unofficial := .nestest } }
  | .official _ | .unmapped => s1

end Sys2Proof.Machine
end

