-- ==== Sys2Proof/Machine/Step.lean ====
section
/-! DEFINITION. Machine/Step.lean: one driver step, `SystemStep` (rule R462). -/

namespace Sys2Proof.Machine

/-- Fetch and run one instruction, then the picture dots and the interrupt check (rules R150, R462). A state whose
`fault` is set takes no step (rule R495). -/
def step (s : State) : Host.Outcome State Fault Refusal :=
  match s.fault with
  | some f => .fault (.halted f)
  | none =>
    match fetchInstr s with
    | .fatal f s1 => (Res.fatal (α := Unit) f s1).outcome
    | .ok i s1 => afterExec s1 (exec i s1)

/-- `s` with the instruction whose bits are `w` (numbered as spec/opcode_table.json numbers them) where the next step
fetches it. -/
def State.withFetchWord (s : State) (nbits w : Nat) : State := placeInstr s (tableBytes nbits w)

end Sys2Proof.Machine
end

