-- ==== Sys2Proof/Machine/Boot.lean ====
section
/-! DEFINITION. Machine/Boot.lean: loading the cartridge record (rules R461, R470) and power-on (rules R530-R533). -/

namespace Sys2Proof.Machine

/-- The drawn power-on contents, or none (rule R531). -/
def drawnImage : RamPowerOn → RamImage
  | .zero => { wram := [], sram := [], oam := [], palette := [], nametable := [] }
  | .draw image => image

/-- Every element at its reset value (rule R531), before the reset vector, the cycles and the dots of rule R530. -/
def resetElements (cart : Cartridge) (params : Params) (ram : RamPowerOn) (host : HostPort) : State where
  cpu :=
    { a := 0x00, x := 0x00, y := 0x00, sp := 0xFD, pc := 0x0000,
      c := false, z := false, i := true, d := false, b := false, v := false, n := false, cycles := 0 }
  ppu :=
    { ctrl := 0x00, mask := 0x00, vblank := false, sprite0Hit := false, spriteOverflow := false, oamAddr := 0x00,
      v := 0, t := 0, x := 0, w := false, readBuffer := 0x00, scanline := 0, dot := 0, oddFrame := false,
      bgLo := 0, bgHi := 0, atLo := 0, atHi := 0, atLatchLo := 0, atLatchHi := 0,
      ntLatch := 0, atBits := 0, ptLoLatch := 0, ptHiLatch := 0, secondary := [], units := [],
      oam := Memory.ofCells 256 (drawnImage ram).oam, palette := Memory.ofCells 32 (drawnImage ram).palette,
      nametable := Memory.ofCells 4096 (drawnImage ram).nametable,
      frame := [], ticks := 0 }
  wram := Memory.ofCells 2048 (drawnImage ram).wram
  sram := Memory.ofCells 8192 (drawnImage ram).sram
  nmiPending := false
  fault := none
  cart := cart
  params := params
  host := host

/-- `ResetPC()` (rule R532). -/
def resetPc (cart : Cartridge) : ResetPcMode → Word
  | .vector => wordOf (prgRead cart (resetVector.toNat + 1)) (prgRead cart resetVector.toNat)
  | .fixed a => a

/-- `PowerOn()` (rule R530): the elements, PC, 7 cycles (rule R533), 21 dots. -/
def powerOn (cart : Cartridge) (params : Params) (mode : ResetPcMode) (ram : RamPowerOn) (host : HostPort) : State :=
  ppuTicks 21 (((resetElements cart params ram host).setPc (resetPc cart mode)).addCycles 7)

/-- The host says nothing and has been sent nothing: `irq_line` stays low, the default of rules R13 and R469
(DESIGN CHOICE, safe: log entry 9), and every controller read answers the free value (log entry 6). -/
def silentHost : HostPort where
  controllerAnswers := []
  controllerReads := 0
  strobes := []
  irqLevels := []
  framesDone := 0
  presented := []

/-- The host's side at power-on: what it will answer, and nothing sent yet (rules R461, R471). -/
def hostPort (h : HostInputs) : HostPort :=
  { silentHost with controllerAnswers := h.controllerAnswers, irqLevels := h.irqLevels }

/-- The program-ROM length of a record, if rule R470 accepts it. -/
def prgSizeOf (n : Nat) : Option PrgSize :=
  if n = 16384 then some .k16 else if n = 32768 then some .k32 else none

/-- Load (rule R470), then power-on (rule R534). A refused record yields no state. The order of the checks is DEDUCED,
safe (log entry 15). That the levels of `irq_line` and the controller's bits enter here, as lists that the run then
consumes, is a DESIGN CHOICE, safe (log entries 6 and 9). -/
def load (h : HostInputs) : Except Fatal State :=
  if h.record.mapper ≠ 0 then .error (.romFormat .mapper)
  else
    match prgSizeOf h.record.prg.length with
    | none => .error (.romFormat .prg)
    | some size =>
      if h.record.chr.length ≠ 8192 then .error (.romFormat .chr)
      else
        .ok (powerOn
          { prg := Memory.ofBytes 0 h.record.prg, prgSize := size, chr := Memory.ofBytes 0 h.record.chr,
            mirroring := h.record.mirroring }
          h.params h.resetPc h.ram (hostPort h))

end Sys2Proof.Machine
end

