-- ==== Sys2Proof/WellFormed.lean ====
section
/-! DEFINITION. WellFormed.lean: what a table setting maps (rules R123, R320) and what a load accepts (rules R461,
R470). The operands of an instruction need no check: their types hold exactly the encodable values. -/

namespace Sys2Proof

/-- The instruction's opcode is mapped under `UNOFFICIAL_OPCODES` (rules R320, R331). -/
def Instr.wellFormed (u : UnofficialOpcodes) (i : Instr) : Bool := u == .nestest || !i.isUnofficial

/-- The mapper identifier is the fixed-bank mapper's (rules R461, R470). -/
def CartridgeRecord.mapperOk (r : CartridgeRecord) : Bool := r.mapper == 0

/-- The program ROM has one of the two accepted lengths (rules R461, R470). -/
def CartridgeRecord.prgOk (r : CartridgeRecord) : Bool := r.prg.length == 16384 || r.prg.length == 32768

/-- The pattern ROM has the accepted length (rules R461, R470). -/
def CartridgeRecord.chrOk (r : CartridgeRecord) : Bool := r.chr.length == 8192

/-- The record a load accepts (rule R470). -/
def CartridgeRecord.wellFormed (r : CartridgeRecord) : Bool := r.mapperOk && r.prgOk && r.chrOk

end Sys2Proof
end

