-- ==== Sys2Proof/Safety.lean ====
section
/-! DEFINITION. Safety.lean: the words claims are stated in: plain memory as seen without a bus access, the invariant
of the machine, and what an instruction leaves unchanged. -/

namespace Sys2Proof.Machine

/-- The byte of plain memory (work RAM, static RAM, program ROM) at a CPU address, seen without a bus access; `none`
at the addresses of rules R74-R78, which are registers or fatal. -/
def peek (s : State) (a : Word) : Option Byte :=
  if 0x8000 ≤ a.toNat then some (prgRead s.cart a.toNat)
  else if 0x6000 ≤ a.toNat then some (s.sram.read (a.toNat - 0x6000))
  else if 0x2000 ≤ a.toNat then none
  else some (s.wram.read (a.toNat % 0x800))

/-- The bytes of plain memory from `a` on are `bs`. -/
def holds (s : State) (a : Word) : List Byte → Prop
  | [] => True
  | b :: bs => peek s a = some b ∧ holds s (a + 1) bs

/-- Two CPU addresses of RAM that reach the same byte (rules R73, R79). -/
def sameRamByte (a b : Word) : Prop :=
  (a.toNat < 0x2000 ∧ b.toNat < 0x2000 ∧ a.toNat % 0x800 = b.toNat % 0x800) ∨
    (0x6000 ≤ a.toNat ∧ a.toNat < 0x8000 ∧ a = b)

/-- A CPU address of work RAM or static RAM. -/
def ramAddr (a : Word) : Prop := a.toNat < 0x2000 ∨ (0x6000 ≤ a.toNat ∧ a.toNat < 0x8000)

/-- Every backing store is in canonical form at its size (rules R12, R56-R60). -/
def MemoriesWf (s : State) : Prop :=
  s.wram.wf 2048 = true ∧ s.sram.wf 8192 = true ∧ s.ppu.oam.wf 256 = true ∧ s.ppu.palette.wf 32 = true ∧
    s.ppu.nametable.wf 4096 = true ∧ s.cart.prg.wf s.cart.prgSize.bytes = true ∧ s.cart.chr.wf 8192 = true

/-- A row's keys fall strictly and stay below `bound`. -/
def fallingBelow {α : Type} : Nat → List (Nat × α) → Prop
  | _, [] => True
  | bound, (k, _) :: m => k < bound ∧ fallingBelow k m

/-- The frame buffer lists each entry of the 256 × 240 picture at most once, in order (rule R61). -/
def FrameWf (f : Frame) : Prop := fallingBelow 240 f ∧ ∀ r ∈ f, fallingBelow 256 r.2

/-- The ranges rules R52, R54, R55 and R61 give the picture engine. -/
def PictureWf (p : Ppu) : Prop :=
  p.scanline ≤ 261 ∧ p.dot ≤ 340 ∧ p.secondary.length ≤ 8 ∧ p.units.length ≤ 8 ∧ FrameWf p.frame

/-- The invariant of the machine at a driver-step boundary: canonical stores, the picture engine in its ranges, the
B flag clear (rule R39), no fault (rule R64), and three picture dots for every processor cycle (rule R463). -/
def Inv (s : State) : Prop :=
  MemoriesWf s ∧ PictureWf s.ppu ∧ s.cpu.b = false ∧ s.fault = none ∧ s.ppu.ticks = 3 * s.cpu.cycles

/-- The opcode byte of an instruction (rule R120). -/
def opcodeOf (i : Instr) : Byte := (encode i).headD 0

/-- The thirteen addressing modes by name (rules R151-R163). -/
inductive Mode where
  | imp
  | acc
  | imm
  | zp
  | zpx
  | zpy
  | abs
  | absx
  | absy
  | ind
  | indx
  | indy
  | rel
  deriving DecidableEq, Repr

/-- The mode of an operand. -/
def modeOf : Operand → Mode
  | .imp => .imp
  | .acc => .acc
  | .imm _ => .imm
  | .zp _ => .zp
  | .zpx _ => .zpx
  | .zpy _ => .zpy
  | .abs _ => .abs
  | .absx _ => .absx
  | .absy _ => .absy
  | .ind _ => .ind
  | .indx _ => .indx
  | .indy _ => .indy
  | .rel _ => .rel

/-- The pointer in page 0 whose low byte is at `z`, its high byte from page 0 too (rules R161, R162). -/
def pagePointer (s : State) (z : Byte) : Word := wordOf (s.wram.read (z + 1).toNat) (s.wram.read z.toNat)

/-- The address of the memory operand, for the modes that name one (rules R154-R159, R161, R162). -/
def operandAddr (s : State) : Operand → Option Word
  | .zp z => some (z.setWidth 16)
  | .zpx z => some ((z + s.cpu.x).setWidth 16)
  | .zpy z => some ((z + s.cpu.y).setWidth 16)
  | .abs a => some a
  | .absx a => some (a + s.cpu.x.setWidth 16)
  | .absy a => some (a + s.cpu.y.setWidth 16)
  | .indx z => some (pagePointer s (z + s.cpu.x))
  | .indy z => some (pagePointer s z + s.cpu.y.setWidth 16)
  | .imp | .acc | .imm _ | .ind _ | .rel _ => none

/-- Two addresses with different high bytes (rule R20, page). -/
def otherPage (a b : Word) : Bool := decide (a.toNat / 256 ≠ b.toNat / 256)

/-- `crossed` (rules R158, R159, R162). -/
def crosses (s : State) : Operand → Bool
  | .absx a => otherPage a (a + s.cpu.x.setWidth 16)
  | .absy a => otherPage a (a + s.cpu.y.setWidth 16)
  | .indy z => otherPage (pagePointer s z) (pagePointer s z + s.cpu.y.setWidth 16)
  | _ => false

/-- The state with PC past the instruction (rule R150). -/
def past (s : State) (o : Operand) : State :=
  { s with cpu := { s.cpu with pc := s.cpu.pc + BitVec.ofNat 16 o.length } }

/-- `Operand()` answers `v` and leaves `t` (rules R150-R166): the accumulator, the immediate byte, or the byte a bus
read of the operand's address gives. -/
def Loads (s : State) (o : Operand) (v : Byte) (t : State) : Prop :=
  match o with
  | .acc => v = s.cpu.a ∧ t = past s o
  | .imm b => v = b ∧ t = past s o
  | o => ∃ ea, operandAddr s o = some ea ∧ memRead (past s o) ea = .ok v t

/-- `Operand()` is fatal, in state `t`. -/
def LoadFails (s : State) (o : Operand) (f : Fatal) (t : State) : Prop :=
  ∃ ea, operandAddr s o = some ea ∧ memRead (past s o) ea = .fatal f t

/-- `StoreOperand(v)` in state `u`, at the address the operand had in state `s`, leaves `t` (rule R166). -/
def Saves (s : State) (o : Operand) (u : State) (v : Byte) (t : State) : Prop :=
  match o with
  | .acc => t = { u with cpu := { u.cpu with a := v } }
  | o => ∃ ea, operandAddr s o = some ea ∧ memWrite u ea v = .ok () t

/-- `StoreOperand(v)` is fatal, in state `t`. -/
def SaveFails (s : State) (o : Operand) (u : State) (v : Byte) (f : Fatal) (t : State) : Prop :=
  ∃ ea, operandAddr s o = some ea ∧ memWrite u ea v = .fatal f t

/-- The cycles of a reading instruction by mode, with the page-crossing cycle (rules R124, R126, R164). -/
def readCost (s : State) (o : Operand) : Nat :=
  match modeOf o with
  | .zp => 3
  | .zpx | .zpy | .abs => 4
  | .absx | .absy => 4 + (crosses s o).toNat
  | .indx => 6
  | .indy => 5 + (crosses s o).toNat
  | .imp | .acc | .imm | .ind | .rel => 2

/-- The cycles of a store by mode (rules R124, R126, R165). -/
def storeCost (o : Operand) : Nat :=
  match modeOf o with
  | .zp => 3
  | .zpx | .zpy | .abs => 4
  | .absx | .absy => 5
  | .indx | .indy => 6
  | .imp | .acc | .imm | .ind | .rel => 0

/-- The cycles of a read-modify-write by mode (rules R124, R126, R165). -/
def modifyCost (o : Operand) : Nat :=
  match modeOf o with
  | .acc => 2
  | .zp => 5
  | .zpx | .abs => 6
  | .absx | .absy => 7
  | .indx | .indy => 8
  | .imp | .imm | .zpy | .ind | .rel => 0

/-- The outcome of a fatal condition raised in state `t` (rule R495). -/
def faulted (f : Fatal) (t : State) : Host.Outcome State Fault Refusal := .fault (.fatal f { t with fault := some f })

/-- The instruction reads its operand once and then has this effect; a fatal read ends it. -/
def ReadsOperand (i : Instr) (effect : Byte → State → State) : Prop :=
  ∀ s : State,
    (∀ v t, Loads s i.operand v t → exec i s = .next ((effect v t).addCycles (readCost s i.operand))) ∧
    (∀ f t, LoadFails s i.operand f t → exec i s = faulted f t)

/-- The instruction writes this value to its operand's address and does nothing else; a fatal write ends it. -/
def StoresValue (i : Instr) (value : Cpu → Byte) : Prop :=
  ∀ s : State,
    (∀ t, Saves s i.operand (past s i.operand) (value s.cpu) t → exec i s = .next (t.addCycles (storeCost i.operand))) ∧
    (∀ f t, SaveFails s i.operand (past s i.operand) (value s.cpu) f t → exec i s = faulted f t)

/-- The instruction reads its operand `m` once, sets C to `carry C m`, writes `new C m` once, and then has this effect
of the written byte; a fatal read or write ends it. -/
def ModifiesOperand (i : Instr) (carry : Bool → Byte → Bool) (new : Bool → Byte → Byte) (effect : Byte → State → State) :
    Prop :=
  ∀ s : State,
    (∀ m u, Loads s i.operand m u →
      (∀ t, Saves s i.operand { u with cpu := { u.cpu with c := carry u.cpu.c m } } (new u.cpu.c m) t →
        exec i s = .next ((effect (new u.cpu.c m) t).addCycles (modifyCost i.operand))) ∧
      (∀ f t, SaveFails s i.operand { u with cpu := { u.cpu with c := carry u.cpu.c m } } (new u.cpu.c m) f t →
        exec i s = faulted f t)) ∧
    (∀ f t, LoadFails s i.operand f t → exec i s = faulted f t)

/-- Every instruction with one of these opcodes has the mode beside it, and the property. -/
def EveryForm (forms : List (Byte × Mode)) (P : Instr → Prop) : Prop :=
  ∀ i : Instr, opcodeOf i ∈ forms.map Prod.fst → (opcodeOf i, modeOf i.operand) ∈ forms ∧ P i

/-- The instructions that call `StoreOperand` (rules R183-R185, R240-R245, R323, R325-R330). -/
def storing (i : Instr) : Bool :=
  ["STA", "STX", "STY", "*SAX", "ASL", "LSR", "ROL", "ROR", "INC", "DEC", "*DCP", "*ISB", "*SLO", "*RLA", "*SRE",
    "*RRA"].contains i.mnemonic

/-- The memory address an instruction stores to; `none` for a form that stores nothing or stores to A. -/
def storeAddr (s : State) (i : Instr) : Option Word := if storing i then operandAddr s i.operand else none

/-- The bytes an instruction pushes (rules R270, R273, R290, R291). -/
def pushed (i : Instr) : Nat :=
  if i.mnemonic = "BRK" then 3 else if i.mnemonic = "JSR" then 2
  else if i.mnemonic = "PHA" ∨ i.mnemonic = "PHP" then 1 else 0

/-- The instructions that call `Operand()`. -/
def loading (i : Instr) : Bool :=
  ["LDA", "LDX", "LDY", "ADC", "SBC", "AND", "ORA", "EOR", "CMP", "CPX", "CPY", "BIT", "*LAX", "*SBC", "ASL", "LSR",
    "ROL", "ROR", "INC", "DEC", "*DCP", "*ISB", "*SLO", "*RLA", "*SRE", "*RRA"].contains i.mnemonic

/-- An address whose read is not fatal (rule R78). -/
def readable (a : Word) : Prop := a.toNat < 0x4020 ∨ 0x6000 ≤ a.toNat

/-- An address whose write is never fatal: RAM, the IO block without 0x4014, the picture registers without the data
port (rules R73-R80, R92). -/
def writable (a : Word) : Prop :=
  ramAddr a ∨ (0x4000 ≤ a.toNat ∧ a.toNat < 0x4020 ∧ a ≠ 0x4014) ∨
    (0x2000 ≤ a.toNat ∧ a.toNat < 0x4000 ∧ a.toNat % 8 ≠ 7)

/-- Everything outside the processor, its registers and flags aside. -/
def SameOutsideCpu (s t : State) : Prop := t = { s with cpu := t.cpu }

end Sys2Proof.Machine
end

