-- ==== Sys2Proof/Certificates/Slice0/Obligations.lean ====
section
/-! DEFINITION. Certificates/Slice0/Obligations.lean: the statements put to the provers. Each docstring names the rules
of spec/ it formalises; OBLIGATIONS.json quotes them. -/

namespace Sys2Proof.Machine

/-- One row of the dispatch table, columns as rule R126 prints them. -/
structure TableRow where
  op : Byte
  mnemonic : String
  mode : Mode
  length : Nat
  cycles : Nat
  pageCross : Bool
  official : Bool
  deriving DecidableEq, Repr

/-- Rule R126, opcodes 0x00-0x0F. -/
def tableRow0 : List TableRow :=
  [ ⟨0x00, "BRK", .imp, 1, 7, false, true⟩,
    ⟨0x01, "ORA", .indx, 2, 6, false, true⟩,
    ⟨0x03, "*SLO", .indx, 2, 8, false, false⟩,
    ⟨0x04, "*NOP", .zp, 2, 3, false, false⟩,
    ⟨0x05, "ORA", .zp, 2, 3, false, true⟩,
    ⟨0x06, "ASL", .zp, 2, 5, false, true⟩,
    ⟨0x07, "*SLO", .zp, 2, 5, false, false⟩,
    ⟨0x08, "PHP", .imp, 1, 3, false, true⟩,
    ⟨0x09, "ORA", .imm, 2, 2, false, true⟩,
    ⟨0x0A, "ASL", .acc, 1, 2, false, true⟩,
    ⟨0x0C, "*NOP", .abs, 3, 4, false, false⟩,
    ⟨0x0D, "ORA", .abs, 3, 4, false, true⟩,
    ⟨0x0E, "ASL", .abs, 3, 6, false, true⟩,
    ⟨0x0F, "*SLO", .abs, 3, 6, false, false⟩ ]

/-- Rule R126, opcodes 0x10-0x1F. -/
def tableRow1 : List TableRow :=
  [ ⟨0x10, "BPL", .rel, 2, 2, false, true⟩,
    ⟨0x11, "ORA", .indy, 2, 5, true, true⟩,
    ⟨0x13, "*SLO", .indy, 2, 8, false, false⟩,
    ⟨0x14, "*NOP", .zpx, 2, 4, false, false⟩,
    ⟨0x15, "ORA", .zpx, 2, 4, false, true⟩,
    ⟨0x16, "ASL", .zpx, 2, 6, false, true⟩,
    ⟨0x17, "*SLO", .zpx, 2, 6, false, false⟩,
    ⟨0x18, "CLC", .imp, 1, 2, false, true⟩,
    ⟨0x19, "ORA", .absy, 3, 4, true, true⟩,
    ⟨0x1A, "*NOP", .imp, 1, 2, false, false⟩,
    ⟨0x1B, "*SLO", .absy, 3, 7, false, false⟩,
    ⟨0x1C, "*NOP", .absx, 3, 4, true, false⟩,
    ⟨0x1D, "ORA", .absx, 3, 4, true, true⟩,
    ⟨0x1E, "ASL", .absx, 3, 7, false, true⟩,
    ⟨0x1F, "*SLO", .absx, 3, 7, false, false⟩ ]

/-- Rule R126, opcodes 0x20-0x2F. -/
def tableRow2 : List TableRow :=
  [ ⟨0x20, "JSR", .abs, 3, 6, false, true⟩,
    ⟨0x21, "AND", .indx, 2, 6, false, true⟩,
    ⟨0x23, "*RLA", .indx, 2, 8, false, false⟩,
    ⟨0x24, "BIT", .zp, 2, 3, false, true⟩,
    ⟨0x25, "AND", .zp, 2, 3, false, true⟩,
    ⟨0x26, "ROL", .zp, 2, 5, false, true⟩,
    ⟨0x27, "*RLA", .zp, 2, 5, false, false⟩,
    ⟨0x28, "PLP", .imp, 1, 4, false, true⟩,
    ⟨0x29, "AND", .imm, 2, 2, false, true⟩,
    ⟨0x2A, "ROL", .acc, 1, 2, false, true⟩,
    ⟨0x2C, "BIT", .abs, 3, 4, false, true⟩,
    ⟨0x2D, "AND", .abs, 3, 4, false, true⟩,
    ⟨0x2E, "ROL", .abs, 3, 6, false, true⟩,
    ⟨0x2F, "*RLA", .abs, 3, 6, false, false⟩ ]

/-- Rule R126, opcodes 0x30-0x3F. -/
def tableRow3 : List TableRow :=
  [ ⟨0x30, "BMI", .rel, 2, 2, false, true⟩,
    ⟨0x31, "AND", .indy, 2, 5, true, true⟩,
    ⟨0x33, "*RLA", .indy, 2, 8, false, false⟩,
    ⟨0x34, "*NOP", .zpx, 2, 4, false, false⟩,
    ⟨0x35, "AND", .zpx, 2, 4, false, true⟩,
    ⟨0x36, "ROL", .zpx, 2, 6, false, true⟩,
    ⟨0x37, "*RLA", .zpx, 2, 6, false, false⟩,
    ⟨0x38, "SEC", .imp, 1, 2, false, true⟩,
    ⟨0x39, "AND", .absy, 3, 4, true, true⟩,
    ⟨0x3A, "*NOP", .imp, 1, 2, false, false⟩,
    ⟨0x3B, "*RLA", .absy, 3, 7, false, false⟩,
    ⟨0x3C, "*NOP", .absx, 3, 4, true, false⟩,
    ⟨0x3D, "AND", .absx, 3, 4, true, true⟩,
    ⟨0x3E, "ROL", .absx, 3, 7, false, true⟩,
    ⟨0x3F, "*RLA", .absx, 3, 7, false, false⟩ ]

/-- Rule R126, opcodes 0x40-0x4F. -/
def tableRow4 : List TableRow :=
  [ ⟨0x40, "RTI", .imp, 1, 6, false, true⟩,
    ⟨0x41, "EOR", .indx, 2, 6, false, true⟩,
    ⟨0x43, "*SRE", .indx, 2, 8, false, false⟩,
    ⟨0x44, "*NOP", .zp, 2, 3, false, false⟩,
    ⟨0x45, "EOR", .zp, 2, 3, false, true⟩,
    ⟨0x46, "LSR", .zp, 2, 5, false, true⟩,
    ⟨0x47, "*SRE", .zp, 2, 5, false, false⟩,
    ⟨0x48, "PHA", .imp, 1, 3, false, true⟩,
    ⟨0x49, "EOR", .imm, 2, 2, false, true⟩,
    ⟨0x4A, "LSR", .acc, 1, 2, false, true⟩,
    ⟨0x4C, "JMP", .abs, 3, 3, false, true⟩,
    ⟨0x4D, "EOR", .abs, 3, 4, false, true⟩,
    ⟨0x4E, "LSR", .abs, 3, 6, false, true⟩,
    ⟨0x4F, "*SRE", .abs, 3, 6, false, false⟩ ]

/-- Rule R126, opcodes 0x50-0x5F. -/
def tableRow5 : List TableRow :=
  [ ⟨0x50, "BVC", .rel, 2, 2, false, true⟩,
    ⟨0x51, "EOR", .indy, 2, 5, true, true⟩,
    ⟨0x53, "*SRE", .indy, 2, 8, false, false⟩,
    ⟨0x54, "*NOP", .zpx, 2, 4, false, false⟩,
    ⟨0x55, "EOR", .zpx, 2, 4, false, true⟩,
    ⟨0x56, "LSR", .zpx, 2, 6, false, true⟩,
    ⟨0x57, "*SRE", .zpx, 2, 6, false, false⟩,
    ⟨0x58, "CLI", .imp, 1, 2, false, true⟩,
    ⟨0x59, "EOR", .absy, 3, 4, true, true⟩,
    ⟨0x5A, "*NOP", .imp, 1, 2, false, false⟩,
    ⟨0x5B, "*SRE", .absy, 3, 7, false, false⟩,
    ⟨0x5C, "*NOP", .absx, 3, 4, true, false⟩,
    ⟨0x5D, "EOR", .absx, 3, 4, true, true⟩,
    ⟨0x5E, "LSR", .absx, 3, 7, false, true⟩,
    ⟨0x5F, "*SRE", .absx, 3, 7, false, false⟩ ]

/-- Rule R126, opcodes 0x60-0x6F. -/
def tableRow6 : List TableRow :=
  [ ⟨0x60, "RTS", .imp, 1, 6, false, true⟩,
    ⟨0x61, "ADC", .indx, 2, 6, false, true⟩,
    ⟨0x63, "*RRA", .indx, 2, 8, false, false⟩,
    ⟨0x64, "*NOP", .zp, 2, 3, false, false⟩,
    ⟨0x65, "ADC", .zp, 2, 3, false, true⟩,
    ⟨0x66, "ROR", .zp, 2, 5, false, true⟩,
    ⟨0x67, "*RRA", .zp, 2, 5, false, false⟩,
    ⟨0x68, "PLA", .imp, 1, 4, false, true⟩,
    ⟨0x69, "ADC", .imm, 2, 2, false, true⟩,
    ⟨0x6A, "ROR", .acc, 1, 2, false, true⟩,
    ⟨0x6C, "JMP", .ind, 3, 5, false, true⟩,
    ⟨0x6D, "ADC", .abs, 3, 4, false, true⟩,
    ⟨0x6E, "ROR", .abs, 3, 6, false, true⟩,
    ⟨0x6F, "*RRA", .abs, 3, 6, false, false⟩ ]

/-- Rule R126, opcodes 0x70-0x7F. -/
def tableRow7 : List TableRow :=
  [ ⟨0x70, "BVS", .rel, 2, 2, false, true⟩,
    ⟨0x71, "ADC", .indy, 2, 5, true, true⟩,
    ⟨0x73, "*RRA", .indy, 2, 8, false, false⟩,
    ⟨0x74, "*NOP", .zpx, 2, 4, false, false⟩,
    ⟨0x75, "ADC", .zpx, 2, 4, false, true⟩,
    ⟨0x76, "ROR", .zpx, 2, 6, false, true⟩,
    ⟨0x77, "*RRA", .zpx, 2, 6, false, false⟩,
    ⟨0x78, "SEI", .imp, 1, 2, false, true⟩,
    ⟨0x79, "ADC", .absy, 3, 4, true, true⟩,
    ⟨0x7A, "*NOP", .imp, 1, 2, false, false⟩,
    ⟨0x7B, "*RRA", .absy, 3, 7, false, false⟩,
    ⟨0x7C, "*NOP", .absx, 3, 4, true, false⟩,
    ⟨0x7D, "ADC", .absx, 3, 4, true, true⟩,
    ⟨0x7E, "ROR", .absx, 3, 7, false, true⟩,
    ⟨0x7F, "*RRA", .absx, 3, 7, false, false⟩ ]

/-- Rule R126, opcodes 0x80-0x8F. -/
def tableRow8 : List TableRow :=
  [ ⟨0x80, "*NOP", .imm, 2, 2, false, false⟩,
    ⟨0x81, "STA", .indx, 2, 6, false, true⟩,
    ⟨0x82, "*NOP", .imm, 2, 2, false, false⟩,
    ⟨0x83, "*SAX", .indx, 2, 6, false, false⟩,
    ⟨0x84, "STY", .zp, 2, 3, false, true⟩,
    ⟨0x85, "STA", .zp, 2, 3, false, true⟩,
    ⟨0x86, "STX", .zp, 2, 3, false, true⟩,
    ⟨0x87, "*SAX", .zp, 2, 3, false, false⟩,
    ⟨0x88, "DEY", .imp, 1, 2, false, true⟩,
    ⟨0x89, "*NOP", .imm, 2, 2, false, false⟩,
    ⟨0x8A, "TXA", .imp, 1, 2, false, true⟩,
    ⟨0x8C, "STY", .abs, 3, 4, false, true⟩,
    ⟨0x8D, "STA", .abs, 3, 4, false, true⟩,
    ⟨0x8E, "STX", .abs, 3, 4, false, true⟩,
    ⟨0x8F, "*SAX", .abs, 3, 4, false, false⟩ ]

/-- Rule R126, opcodes 0x90-0x9F. -/
def tableRow9 : List TableRow :=
  [ ⟨0x90, "BCC", .rel, 2, 2, false, true⟩,
    ⟨0x91, "STA", .indy, 2, 6, false, true⟩,
    ⟨0x94, "STY", .zpx, 2, 4, false, true⟩,
    ⟨0x95, "STA", .zpx, 2, 4, false, true⟩,
    ⟨0x96, "STX", .zpy, 2, 4, false, true⟩,
    ⟨0x97, "*SAX", .zpy, 2, 4, false, false⟩,
    ⟨0x98, "TYA", .imp, 1, 2, false, true⟩,
    ⟨0x99, "STA", .absy, 3, 5, false, true⟩,
    ⟨0x9A, "TXS", .imp, 1, 2, false, true⟩,
    ⟨0x9D, "STA", .absx, 3, 5, false, true⟩ ]

/-- Rule R126, opcodes 0xA0-0xAF. -/
def tableRowA : List TableRow :=
  [ ⟨0xA0, "LDY", .imm, 2, 2, false, true⟩,
    ⟨0xA1, "LDA", .indx, 2, 6, false, true⟩,
    ⟨0xA2, "LDX", .imm, 2, 2, false, true⟩,
    ⟨0xA3, "*LAX", .indx, 2, 6, false, false⟩,
    ⟨0xA4, "LDY", .zp, 2, 3, false, true⟩,
    ⟨0xA5, "LDA", .zp, 2, 3, false, true⟩,
    ⟨0xA6, "LDX", .zp, 2, 3, false, true⟩,
    ⟨0xA7, "*LAX", .zp, 2, 3, false, false⟩,
    ⟨0xA8, "TAY", .imp, 1, 2, false, true⟩,
    ⟨0xA9, "LDA", .imm, 2, 2, false, true⟩,
    ⟨0xAA, "TAX", .imp, 1, 2, false, true⟩,
    ⟨0xAC, "LDY", .abs, 3, 4, false, true⟩,
    ⟨0xAD, "LDA", .abs, 3, 4, false, true⟩,
    ⟨0xAE, "LDX", .abs, 3, 4, false, true⟩,
    ⟨0xAF, "*LAX", .abs, 3, 4, false, false⟩ ]

/-- Rule R126, opcodes 0xB0-0xBF. -/
def tableRowB : List TableRow :=
  [ ⟨0xB0, "BCS", .rel, 2, 2, false, true⟩,
    ⟨0xB1, "LDA", .indy, 2, 5, true, true⟩,
    ⟨0xB3, "*LAX", .indy, 2, 5, true, false⟩,
    ⟨0xB4, "LDY", .zpx, 2, 4, false, true⟩,
    ⟨0xB5, "LDA", .zpx, 2, 4, false, true⟩,
    ⟨0xB6, "LDX", .zpy, 2, 4, false, true⟩,
    ⟨0xB7, "*LAX", .zpy, 2, 4, false, false⟩,
    ⟨0xB8, "CLV", .imp, 1, 2, false, true⟩,
    ⟨0xB9, "LDA", .absy, 3, 4, true, true⟩,
    ⟨0xBA, "TSX", .imp, 1, 2, false, true⟩,
    ⟨0xBC, "LDY", .absx, 3, 4, true, true⟩,
    ⟨0xBD, "LDA", .absx, 3, 4, true, true⟩,
    ⟨0xBE, "LDX", .absy, 3, 4, true, true⟩,
    ⟨0xBF, "*LAX", .absy, 3, 4, true, false⟩ ]

/-- Rule R126, opcodes 0xC0-0xCF. -/
def tableRowC : List TableRow :=
  [ ⟨0xC0, "CPY", .imm, 2, 2, false, true⟩,
    ⟨0xC1, "CMP", .indx, 2, 6, false, true⟩,
    ⟨0xC2, "*NOP", .imm, 2, 2, false, false⟩,
    ⟨0xC3, "*DCP", .indx, 2, 8, false, false⟩,
    ⟨0xC4, "CPY", .zp, 2, 3, false, true⟩,
    ⟨0xC5, "CMP", .zp, 2, 3, false, true⟩,
    ⟨0xC6, "DEC", .zp, 2, 5, false, true⟩,
    ⟨0xC7, "*DCP", .zp, 2, 5, false, false⟩,
    ⟨0xC8, "INY", .imp, 1, 2, false, true⟩,
    ⟨0xC9, "CMP", .imm, 2, 2, false, true⟩,
    ⟨0xCA, "DEX", .imp, 1, 2, false, true⟩,
    ⟨0xCC, "CPY", .abs, 3, 4, false, true⟩,
    ⟨0xCD, "CMP", .abs, 3, 4, false, true⟩,
    ⟨0xCE, "DEC", .abs, 3, 6, false, true⟩,
    ⟨0xCF, "*DCP", .abs, 3, 6, false, false⟩ ]

/-- Rule R126, opcodes 0xD0-0xDF. -/
def tableRowD : List TableRow :=
  [ ⟨0xD0, "BNE", .rel, 2, 2, false, true⟩,
    ⟨0xD1, "CMP", .indy, 2, 5, true, true⟩,
    ⟨0xD3, "*DCP", .indy, 2, 8, false, false⟩,
    ⟨0xD4, "*NOP", .zpx, 2, 4, false, false⟩,
    ⟨0xD5, "CMP", .zpx, 2, 4, false, true⟩,
    ⟨0xD6, "DEC", .zpx, 2, 6, false, true⟩,
    ⟨0xD7, "*DCP", .zpx, 2, 6, false, false⟩,
    ⟨0xD8, "CLD", .imp, 1, 2, false, true⟩,
    ⟨0xD9, "CMP", .absy, 3, 4, true, true⟩,
    ⟨0xDA, "*NOP", .imp, 1, 2, false, false⟩,
    ⟨0xDB, "*DCP", .absy, 3, 7, false, false⟩,
    ⟨0xDC, "*NOP", .absx, 3, 4, true, false⟩,
    ⟨0xDD, "CMP", .absx, 3, 4, true, true⟩,
    ⟨0xDE, "DEC", .absx, 3, 7, false, true⟩,
    ⟨0xDF, "*DCP", .absx, 3, 7, false, false⟩ ]

/-- Rule R126, opcodes 0xE0-0xEF. -/
def tableRowE : List TableRow :=
  [ ⟨0xE0, "CPX", .imm, 2, 2, false, true⟩,
    ⟨0xE1, "SBC", .indx, 2, 6, false, true⟩,
    ⟨0xE2, "*NOP", .imm, 2, 2, false, false⟩,
    ⟨0xE3, "*ISB", .indx, 2, 8, false, false⟩,
    ⟨0xE4, "CPX", .zp, 2, 3, false, true⟩,
    ⟨0xE5, "SBC", .zp, 2, 3, false, true⟩,
    ⟨0xE6, "INC", .zp, 2, 5, false, true⟩,
    ⟨0xE7, "*ISB", .zp, 2, 5, false, false⟩,
    ⟨0xE8, "INX", .imp, 1, 2, false, true⟩,
    ⟨0xE9, "SBC", .imm, 2, 2, false, true⟩,
    ⟨0xEA, "NOP", .imp, 1, 2, false, true⟩,
    ⟨0xEB, "*SBC", .imm, 2, 2, false, false⟩,
    ⟨0xEC, "CPX", .abs, 3, 4, false, true⟩,
    ⟨0xED, "SBC", .abs, 3, 4, false, true⟩,
    ⟨0xEE, "INC", .abs, 3, 6, false, true⟩,
    ⟨0xEF, "*ISB", .abs, 3, 6, false, false⟩ ]

/-- Rule R126, opcodes 0xF0-0xFF. -/
def tableRowF : List TableRow :=
  [ ⟨0xF0, "BEQ", .rel, 2, 2, false, true⟩,
    ⟨0xF1, "SBC", .indy, 2, 5, true, true⟩,
    ⟨0xF3, "*ISB", .indy, 2, 8, false, false⟩,
    ⟨0xF4, "*NOP", .zpx, 2, 4, false, false⟩,
    ⟨0xF5, "SBC", .zpx, 2, 4, false, true⟩,
    ⟨0xF6, "INC", .zpx, 2, 6, false, true⟩,
    ⟨0xF7, "*ISB", .zpx, 2, 6, false, false⟩,
    ⟨0xF8, "SED", .imp, 1, 2, false, true⟩,
    ⟨0xF9, "SBC", .absy, 3, 4, true, true⟩,
    ⟨0xFA, "*NOP", .imp, 1, 2, false, false⟩,
    ⟨0xFB, "*ISB", .absy, 3, 7, false, false⟩,
    ⟨0xFC, "*NOP", .absx, 3, 4, true, false⟩,
    ⟨0xFD, "SBC", .absx, 3, 4, true, true⟩,
    ⟨0xFE, "INC", .absx, 3, 7, false, true⟩,
    ⟨0xFF, "*ISB", .absx, 3, 7, false, false⟩ ]

/-- Rule R126, all 231 rows. -/
def dispatchTable : List TableRow :=
  tableRow0 ++ tableRow1 ++ tableRow2 ++ tableRow3 ++ tableRow4 ++ tableRow5 ++ tableRow6 ++ tableRow7
    ++ tableRow8 ++ tableRow9 ++ tableRowA ++ tableRowB ++ tableRowC ++ tableRowD ++ tableRowE ++ tableRowF

/-- The 25 bytes that no setting maps (rules R127, R331). -/
def neverMapped : List Byte :=
  [0x02, 0x12, 0x22, 0x32, 0x42, 0x52, 0x62, 0x72, 0x92, 0xB2, 0xD2, 0xF2]
    ++ [0x0B, 0x2B, 0x4B, 0x6B, 0x8B, 0xAB, 0xCB, 0x93, 0x9B, 0x9C, 0x9E, 0x9F, 0xBB]

/-- Z and N from a result (rule R40). -/
def withZN (v : Byte) (s : State) : State := { s with cpu := { s.cpu with z := v == 0x00, n := v.getLsbD 7 } }

/-- The shared adder, as rule R211 writes it. -/
def withSum (m : Byte) (s : State) : State :=
  let sum := s.cpu.a.toNat + m.toNat + s.cpu.c.toNat
  let r := BitVec.ofNat 8 (sum % 256)
  { s with cpu := { s.cpu with
    c := decide (0xFF < sum), v := ((s.cpu.a ^^^ r) &&& (m ^^^ r) &&& 0x80#8) != 0#8, a := r, z := r == 0x00,
    n := r.getLsbD 7 } }

/-- The shared comparator, as rule R217 writes it. -/
def withCompare (r m : Byte) (s : State) : State :=
  { s with cpu := { s.cpu with c := decide (m.toNat ≤ r.toNat), z := decide (r = m), n := (r - m).getLsbD 7 } }

/-- Whether a branch is taken (rules R261-R268). -/
def taken (c : Cpu) : Instr → Bool
  | .bcc _ => !c.c
  | .bcs _ => c.c
  | .beq _ => c.z
  | .bne _ => !c.z
  | .bmi _ => c.n
  | .bpl _ => !c.n
  | .bvc _ => !c.v
  | .bvs _ => c.v
  | _ => false

/-- A branch's target (rule R163). -/
def branchTarget (s : State) (d : Byte) : Word := s.cpu.pc + 2 + d.signExtend 16

/-- `branch_extra` (rule R260). -/
def branchExtra (s : State) (i : Instr) : Nat :=
  match i.operand with
  | .rel d => if taken s.cpu i then (if otherPage (s.cpu.pc + 2) (branchTarget s d) then 2 else 1) else 0
  | _ => 0

/-- What a branch leaves (rules R163, R260). -/
def branched (cond : Bool) (d : Byte) (s : State) : State :=
  if cond then
    { s with cpu := { s.cpu with
      pc := branchTarget s d
      cycles := s.cpu.cycles + (if otherPage (s.cpu.pc + 2) (branchTarget s d) then 4 else 3) } }
  else { s with cpu := { s.cpu with pc := s.cpu.pc + 2, cycles := s.cpu.cycles + 2 } }

/-- `(ptr & 0xFF00) | ((ptr + 1) & 0x00FF)` (rule R160). -/
def samePageNext (ptr : Word) : Word := (ptr &&& 0xFF00) ||| ((ptr + 1) &&& 0x00FF)

/-- The stack byte at `0x0100 + SP - k` (rule R84). -/
def below (s : State) (k : Nat) : Nat := 0x100 + (s.cpu.sp - BitVec.ofNat 8 k).toNat

/-- The stack byte at `0x0100 + SP + k` (rule R84). -/
def above (s : State) (k : Nat) : Nat := 0x100 + (s.cpu.sp + BitVec.ofNat 8 k).toNat

/-- The word at a vector in program ROM, low byte first (rule R86). -/
def romWord (c : Cartridge) (v : Nat) : Word := wordOf (prgRead c (v + 1)) (prgRead c v)

/-- Three pushed bytes, I set, PC from the vector: what BRK and the interrupts leave (rules R273, R493). -/
def entered (s : State) (ret : Word) (status : Byte) (vector : Nat) (cost : Nat) : State :=
  { s with
    wram := ((s.wram.write (below s 0) (hiByte ret)).write (below s 1) (loByte ret)).write (below s 2) status
    cpu := { s.cpu with
      sp := s.cpu.sp - 3, i := true, pc := romWord s.cart vector, cycles := s.cpu.cycles + cost } }

/-- The flags a status byte unpacks to (rule R38). -/
def withStatus (p : Byte) (c : Cpu) : Cpu :=
  { c with
    c := p.getLsbD 0, z := p.getLsbD 1, i := p.getLsbD 2, d := p.getLsbD 3, b := false, v := p.getLsbD 6,
    n := p.getLsbD 7 }

/-- An instruction without operand: its byte, and what it leaves with PC one on and 2 cycles added. -/
def RegisterOnly (i : Instr) (op : Byte) (effect : Cpu → Cpu) : Prop :=
  encode i = [op] ∧
    ∀ s, exec i s = .next { s with cpu :=
      { effect s.cpu with pc := s.cpu.pc + 1, cycles := s.cpu.cycles + 2 } }

/-- A register written with Z and N from the value. -/
def cpuZN (v : Byte) (c : Cpu) : Cpu := { c with z := v == 0x00, n := v.getLsbD 7 }

/-- A CPU address of picture register `r` or one of its mirrors (rule R74). -/
def pictureReg (a : Word) (r : Nat) : Prop := 0x2000 ≤ a.toNat ∧ a.toNat < 0x4000 ∧ a.toNat % 8 = r

/-- The amount the data port adds to v (rule R366). -/
def portStep (p : Ppu) : BitVec 15 := if p.ctrl.getLsbD 2 then 32 else 1

/-- The physical name table behind a logical one (rule R94). -/
def physicalTable (m : Mirroring) (table : Nat) : Nat :=
  match m with
  | .horizontal => table / 2
  | .vertical => table % 2
  | .fourScreen => table

/-- Two picture-side addresses in 0x2000-0x2FFF that reach one byte (rule R94). -/
def sameNametableByte (m : Mirroring) (a b : Nat) : Prop :=
  a % 0x400 = b % 0x400 ∧ physicalTable m ((a - 0x2000) / 0x400) = physicalTable m ((b - 0x2000) / 0x400)

/-- The skip of dot 340 on an odd frame (rule R401). -/
def skips (s : State) : Prop :=
  s.ppu.scanline = 261 ∧ s.ppu.dot = 339 ∧ s.ppu.oddFrame = true ∧
    (s.params.oddFrameSkip = .always ∨ s.ppu.mask.getLsbD 3 = true ∨ s.ppu.mask.getLsbD 4 = true)

/-- A render line with rendering enabled (rules R368, R402). -/
def renders (s : State) : Prop :=
  (s.ppu.scanline < 240 ∨ s.ppu.scanline = 261) ∧ (s.ppu.mask.getLsbD 3 = true ∨ s.ppu.mask.getLsbD 4 = true)

/-- Sprite height (rule R421). -/
def tall (p : Ppu) : Nat := if p.ctrl.getLsbD 5 then 16 else 8

/-- Entry `n` of sprite memory as evaluation records it (rules R56, R422). -/
def spriteEntry (p : Ppu) (n : Nat) : SpriteEntry where
  y := p.oam.read (4 * n)
  tile := p.oam.read (4 * n + 1)
  attr := p.oam.read (4 * n + 2)
  x := p.oam.read (4 * n + 3)
  isSprite0 := decide (n = 0)

/-- The sprites of the current line, lowest number first (rule R422). -/
def lineSprites (p : Ppu) : List SpriteEntry :=
  ((List.range 64).map (spriteEntry p)).filter fun e =>
    decide (e.y.toNat ≤ p.scanline) && decide (p.scanline < e.y.toNat + tall p)

/-- The byte with its bits in reverse order if `flip`. -/
def flipped (flip : Bool) (b r : Byte) : Prop := ∀ k, k < 8 → r.getLsbD k = b.getLsbD (if flip then 7 - k else k)

/-- Where the low pattern byte of a sprite lies, for a sprite on the current line (rule R424). -/
def spritePatternAddr (p : Ppu) (e : SpriteEntry) : Nat :=
  let row := if e.attr.getLsbD 7 then tall p - 1 - (p.scanline - e.y.toNat) else p.scanline - e.y.toNat
  if p.ctrl.getLsbD 5 then
    (e.tile.toNat % 2) * 0x1000 + (e.tile.toNat / 2 * 2 + row / 8) * 16 + row % 8
  else (p.ctrl.getLsbD 3).toNat * 0x1000 + e.tile.toNat * 16 + row

/-- The data port's address after `j` reads (rules R365, R366). -/
def portAddr (p : Ppu) (j : Nat) : Nat := (p.v + BitVec.ofNat 15 j * portStep p).toNat % 0x4000

/-- What the `j`-th read of the data port in a row puts into the read buffer (rule R365). -/
def portFill (s : State) (j : Nat) : Byte :=
  if portAddr s.ppu j < 0x3F00 then ppuRead s (portAddr s.ppu j) else ppuRead s (portAddr s.ppu j - 0x1000)

/-- What the `j`-th read of the data port in a row returns (rule R365). -/
def portByte (s : State) : Nat → Byte
  | 0 => if portAddr s.ppu 0 < 0x3F00 then s.ppu.readBuffer else ppuRead s (portAddr s.ppu 0)
  | j + 1 => if portAddr s.ppu (j + 1) < 0x3F00 then portFill s j else ppuRead s (portAddr s.ppu (j + 1))

/-- The status register's byte (rule R357). -/
def statusAs (vblank : Bool) (s : State) : Byte :=
  BitVec.ofNat 8 (128 * vblank.toNat + 64 * s.ppu.sprite0Hit.toNat + 32 * s.ppu.spriteOverflow.toNat +
    s.params.ppuOpenBus.toNat % 32)

/-- Byte `k` of a page of picture registers, as OAM DMA reads it: the first status read clears vblank, the eight
registers repeat, and a sprite memory read finds the first byte the DMA itself has written (rules R77, R357-R367). -/
def pageOfRegisters (s : State) (k : Nat) : Byte :=
  if k % 8 = 2 then statusAs (s.ppu.vblank && decide (k = 2)) s
  else if k % 8 = 7 then portByte s (k / 8)
  else s.params.ppuOpenBus

/-- The background registers as the pixel of a dot of a visible line sees them: after the dot's shift (rules R403,
R406). -/
def atPixel (p : Ppu) : Ppu :=
  if 2 ≤ p.dot ∧ (p.mask.getLsbD 3 = true ∨ p.mask.getLsbD 4 = true) then
    { p with
      bgLo := p.bgLo <<< 1, bgHi := p.bgHi <<< 1
      atLo := p.atLo <<< 1 ||| p.atLatchLo.setWidth 8, atHi := p.atHi <<< 1 ||| p.atLatchHi.setWidth 8 }
  else p

/-- `bp` and `bpal` (rule R431), as numbers. -/
def backgroundBits (p : Ppu) (x : Nat) : Nat × Nat :=
  if p.mask.getLsbD 3 = true ∧ (8 ≤ x ∨ p.mask.getLsbD 1 = true) then
    (2 * (p.bgHi.toNat / 2 ^ (15 - p.x.toNat) % 2) + p.bgLo.toNat / 2 ^ (15 - p.x.toNat) % 2,
     2 * (p.atHi.toNat / 2 ^ (7 - p.x.toNat) % 2) + p.atLo.toNat / 2 ^ (7 - p.x.toNat) % 2)
  else (0, 0)

/-- `sp` of an output unit (rule R432), as a number; 0 outside its eight columns. -/
def unitBits (u : SpriteUnit) (x : Nat) : Nat :=
  if u.x.toNat ≤ x ∧ x < u.x.toNat + 8 then
    2 * (u.patternHi.toNat / 2 ^ (7 - (x - u.x.toNat)) % 2) + u.patternLo.toNat / 2 ^ (7 - (x - u.x.toNat)) % 2
  else 0

/-- Sprites are shown at `x` (rule R432). -/
def spritesShown (p : Ppu) (x : Nat) : Prop := p.mask.getLsbD 4 = true ∧ (8 ≤ x ∨ p.mask.getLsbD 2 = true)

/-- `o` is the sprite of the pixel at `x`: the first output unit with an opaque pixel there, or none (rule R432). -/
def IsSprite (p : Ppu) (x : Nat) (o : Option SpriteUnit) : Prop :=
  match o with
  | none => spritesShown p x → ∀ u ∈ p.units, unitBits u x = 0
  | some u => spritesShown p x ∧ unitBits u x ≠ 0 ∧
      ∃ k : Nat, p.units[k]? = some u ∧ ∀ (j : Nat) (w : SpriteUnit), j < k → p.units[j]? = some w → unitBits w x = 0

/-- The palette address of the table of rule R433, for background bits `bg` and sprite `o`. -/
def layerAddr (bg : Nat × Nat) (o : Option SpriteUnit) (x : Nat) : Nat :=
  match o with
  | none => if bg.1 = 0 then 0x3F00 else 0x3F00 + 4 * bg.2 + bg.1
  | some u => if bg.1 = 0 ∨ u.behindBg = false then 0x3F10 + 4 * u.palette.toNat + unitBits u x
      else 0x3F00 + 4 * bg.2 + bg.1

/-- The frame entry of a palette address (rule R435): index and emphasis, the model's form of it (log entry 5). -/
def entryOf (s : State) (a : Nat) : Pixel where
  index := if s.ppu.mask.getLsbD 0 then (ppuRead s a).setWidth 6 &&& 0x30 else (ppuRead s a).setWidth 6
  emphasis := s.ppu.mask.extractLsb' 5 3

/-- The picture engine after power-on (rules R531, R533), with what its memories and frame hold. -/
def powerOnPpu (oam palette nametable : Memory) (frame : Frame) : Ppu where
  ctrl := 0x00
  mask := 0x00
  vblank := false
  sprite0Hit := false
  spriteOverflow := false
  oamAddr := 0x00
  v := 0
  t := 0
  x := 0
  w := false
  readBuffer := 0x00
  scanline := 0
  dot := 21
  oddFrame := false
  bgLo := 0
  bgHi := 0
  atLo := 0
  atHi := 0
  atLatchLo := 0
  atLatchHi := 0
  ntLatch := 0
  atBits := 0
  ptLoLatch := 0
  ptHiLatch := 0
  secondary := []
  units := []
  oam := oam
  palette := palette
  nametable := nametable
  frame := frame
  ticks := 21

/-- The byte a drawn image gives offset `k`: its last cell for `k`, or 0x00 where it has none (rule R531, log entry
4). -/
def drawnByte (cells : List Host.Cell) (k : Nat) : Byte :=
  ((cells.reverse.find? fun c => c.1 == k).map Prod.snd).getD 0x00

end Sys2Proof.Machine

open Sys2Proof Sys2Proof.Machine

/-- Rules R120-R122, R320: decode and encode agree. -/
def Obligations.DecodeOfEncode : Prop :=
  ∀ (i : Instr) (rest : List Byte),
    decode .nestest (encode i ++ rest) = .ok (i, rest) ∧
    decode .none (encode i ++ rest) =
      if i.isUnofficial then .error (.unmapped (opcodeOf i)) else .ok (i, rest)

/-- Rules R120-R123: where bytes have a meaning, it is the one whose encoding they are. -/
def Obligations.EncodeOfDecode : Prop :=
  ∀ (u : UnofficialOpcodes) (bytes rest : List Byte) (i : Instr),
    decode u bytes = .ok (i, rest) → encode i ++ rest = bytes ∧ i.wellFormed u = true

/-- Rules R45, R120, R126, R130: the table as the spec prints it, and no instruction beside it. -/
def Obligations.DispatchTableRows : Prop :=
  dispatchTable.length = 231 ∧ (dispatchTable.filter TableRow.official).length = 151 ∧
  (dispatchTable.map TableRow.op).Nodup ∧
  (∀ i : Instr, ∃ r ∈ dispatchTable, r.op = opcodeOf i ∧ r.mnemonic = i.mnemonic ∧ r.mode = modeOf i.operand ∧
    r.length = (encode i).length ∧ r.length = i.operand.length ∧ r.official = !i.isUnofficial) ∧
  (∀ r ∈ dispatchTable, ∃ i : Instr, opcodeOf i = r.op)

/-- Rules R123, R127. -/
def Obligations.UnmappedOpcodes : Prop :=
  neverMapped.length = 25 ∧ (∀ op : Byte, formOf .nestest op = none ↔ op ∈ neverMapped) ∧
  (∀ op : Byte, formOf .none op = none ↔ ∀ r ∈ dispatchTable, r.op = op → r.official = false) ∧
  ((List.range 256).filter fun n => (formOf .none (BitVec.ofNat 8 n)).isNone).length = 105 ∧
  (∀ (s t : State) (op : Byte), s.fault = none → memRead s s.cpu.pc = .ok op t →
    formOf s.params.unofficial op = none → step s = faulted (.unmappedOpcode op s.cpu.pc) t) ∧
  (∀ (s : State) (i : Instr), s.fault = none → i.wellFormed s.params.unofficial = true →
    holds s s.cpu.pc (encode i) → step s = afterExec s (exec i s))

/-- Rules R121, R122, R125, on words taken from the spec. -/
def Obligations.DecodedWords : Prop :=
  decode .none [0xA9, 0x42] = .ok (.ldaImm 0x42, []) ∧ decode .none [0xAD, 0x34, 0x12] = .ok (.ldaAbs 0x1234, []) ∧
  decode .none [0xB1, 0xFF] = .ok (.ldaIndy 0xFF, []) ∧ decode .none [0xF0, 0xFE] = .ok (.beq 0xFE, []) ∧
  decode .none [0x6C, 0xFF, 0x30] = .ok (.jmpInd 0x30FF, []) ∧ decode .none [0x0A] = .ok (.aslAcc, []) ∧
  decode .none [0x00] = .ok (.brk, [])

/-- Rules R103, R462: what a step does with the bytes at PC. -/
def Obligations.StepRunsInstruction : Prop :=
  ∀ (s : State) (i : Instr), s.fault = none → i.wellFormed s.params.unofficial = true →
    holds s s.cpu.pc (encode i) →
    (∀ t, exec i s = .next t →
      step s = (interruptCheck (ppuTicks (3 * (t.cpu.cycles - s.cpu.cycles)) t)).outcome) ∧
    (∀ f, exec i s = .fault f → step s = .fault f) ∧ (∀ r, exec i s ≠ .refused r)

/-- Rules R150, R153, R495, R497. The halted answer and the state a fault carries are DEDUCED (log entry 12); so is
the PC of a fatal immediate read of *NOP (log entry 10). -/
def Obligations.FaultedStateIsFinal : Prop :=
  (∀ (s : State) (f : Fatal), s.fault = some f → step s = .fault (.halted f)) ∧
  (∀ (s t : State) (f : Fatal), step s = .fault (.fatal f t) →
    t.fault = some f ∧ t.ppu.ticks = s.ppu.ticks ∧ t.ppu.scanline = s.ppu.scanline ∧ t.ppu.dot = s.ppu.dot ∧
      t.params = s.params ∧ t.cart = s.cart ∧ t.wram = s.wram ∧ t.sram = s.sram ∧ t.nmiPending = s.nmiPending ∧
      t.cpu = { s.cpu with pc := t.cpu.pc, c := t.cpu.c }) ∧
  (∀ (s t : State) (f : Fatal), s.fault = none → memRead s s.cpu.pc = .fatal f t → step s = faulted f t) ∧
  (∀ (s t u : State) (op : Byte) (mk : Byte → Instr) (f : Fatal), s.fault = none → memRead s s.cpu.pc = .ok op t →
    formOf s.params.unofficial op = some (.byte mk) → memRead t (s.cpu.pc + 1) = .fatal f u →
    step s = faulted f { u with cpu := { u.cpu with
      pc := if modeOf (mk 0x00).operand = .imm then s.cpu.pc + 2 else s.cpu.pc } }) ∧
  (∀ (s t u : State) (op : Byte) (mk : Word → Instr) (f : Fatal), s.fault = none → memRead s s.cpu.pc = .ok op t →
    formOf s.params.unofficial op = some (.word mk) → memRead16 t (s.cpu.pc + 1) = .fatal f u →
    step s = faulted f u) ∧
  (∀ (s t : State) (i : Instr) (f : Fatal), s.fault = none → i.wellFormed s.params.unofficial = true →
    holds s s.cpu.pc (encode i) → exec i s = .fault (.fatal f t) → step s = .fault (.fatal f t)) ∧
  (∀ (s : State) (a : Word), 0x8000 ≤ a.toNat →
    ∃ r : Byte, exec (.aslAbs a) s = faulted (.unimplemented .programRom a.toNat (some r))
      { s with cpu := { s.cpu with pc := s.cpu.pc + 3, c := (prgRead s.cart a.toNat).getLsbD 7 } }) ∧
  (∀ (s : State) (r : Refusal), step s ≠ .refused r)

/-- Rules R151-R163, the modes. -/
def Obligations.EffectiveAddresses : Prop :=
  ∀ s : State,
    (∀ o ea, operandAddr s o = some ea → resolve s o = .ok { target := .mem ea, crossed := crosses s o } (past s o)) ∧
    resolve s .imp = .ok { target := .none, crossed := false } (past s .imp) ∧
    resolve s .acc = .ok { target := .acc, crossed := false } (past s .acc) ∧
    (∀ v, resolve s (.imm v) = .ok { target := .imm (s.cpu.pc + 1) v, crossed := false } (past s (.imm v))) ∧
    (∀ d, resolve s (.rel d) = .ok { target := .mem (branchTarget s d), crossed := false } (past s (.rel d))) ∧
    (∀ a lo hi t u, memRead s a = .ok lo t → memRead t (samePageNext a) = .ok hi u →
      resolve s (.ind a) = .ok { target := .mem (wordOf hi lo), crossed := false } (past u (.ind a)))

/-- Rules R78, R80, R92, R494, R500, R540: only the fatal regions stop an instruction. -/
def Obligations.EveryInstructionCompletes : Prop :=
  ∀ (i : Instr) (s : State),
    (∀ ea, loading i = true → operandAddr s i.operand = some ea → readable ea) →
    (∀ ea, storeAddr s i = some ea → writable ea) →
    (∀ a, i.operand = .ind a → readable a ∧ readable (samePageNext a)) →
    ∃ t, exec i s = .next t

/-- Rules R71-R75, R78-R80; the controller port is ControllerPort, the DMA is OamDmaCopies. -/
def Obligations.CpuBusMap : Prop :=
  ∀ (s : State) (a : Word) (v : Byte),
    (0x8000 ≤ a.toNat →
      memRead s a = .ok (s.cart.prg.read ((a.toNat - 0x8000) % s.cart.prgSize.bytes)) s ∧
      memWrite s a v = .fatal (.unimplemented .programRom a.toNat (some v)) s) ∧
    (0x6000 ≤ a.toNat → a.toNat < 0x8000 →
      memRead s a = .ok (s.sram.read (a.toNat - 0x6000)) s ∧
      memWrite s a v = .ok () { s with sram := s.sram.write (a.toNat - 0x6000) v }) ∧
    (0x4020 ≤ a.toNat → a.toNat < 0x6000 →
      memRead s a = .fatal (.unimplemented .expansion a.toNat none) s ∧
      memWrite s a v = .fatal (.unimplemented .expansion a.toNat (some v)) s) ∧
    (0x4000 ≤ a.toNat → a.toNat < 0x4020 →
      (a ≠ 0x4016 → memRead s a = .ok s.params.ioReadValue s) ∧
      (a = 0x4014 → memWrite s a v = oamDma s v) ∧
      (a ≠ 0x4014 → a ≠ 0x4016 → memWrite s a v = .ok () s)) ∧
    (0x2000 ≤ a.toNat → a.toNat < 0x4000 →
      memRead s a = .ok (ppuRegRead s (a.toNat % 8)).1 (ppuRegRead s (a.toNat % 8)).2 ∧
      memWrite s a v = ppuRegWrite s (a.toNat % 8) v) ∧
    (a.toNat < 0x2000 →
      memRead s a = .ok (s.wram.read (a.toNat % 0x800)) s ∧
      memWrite s a v = .ok () { s with wram := s.wram.write (a.toNat % 0x800) v })

/-- Rules R76, R471. That the answers are a list taken in order, the free value when it is empty, the count of reads
and the record of strobes are the model's choice (log entries 6 and 8). -/
def Obligations.ControllerPort : Prop :=
  ∀ s : State,
    (∀ b rest, s.host.controllerAnswers = b :: rest →
      memRead s 0x4016 = .ok (s.params.controllerReadUpper ++ b) { s with host := { s.host with
        controllerAnswers := rest, controllerReads := s.host.controllerReads + 1 } }) ∧
    (s.host.controllerAnswers = [] →
      ∃ b : BitVec 1, memRead s 0x4016 = .ok (s.params.controllerReadUpper ++ b) { s with host := { s.host with
        controllerReads := s.host.controllerReads + 1 } }) ∧
    (∀ v : Byte, memWrite s 0x4016 v = .ok () { s with host := { s.host with
      strobes := BitVec.ofBool (v.getLsbD 0) :: s.host.strobes } })

/-- Rules R73, R79, R96, R103. -/
def Obligations.RamRoundTrip : Prop :=
  ∀ (s : State) (a : Word) (v : Byte), MemoriesWf s → ramAddr a →
    ∃ t, memWrite s a v = .ok () t ∧ memRead t a = .ok v t ∧
      (∀ b, sameRamByte a b → peek t b = some v ∧ memRead t b = .ok v t) ∧
      (∀ b, ¬ sameRamByte a b → peek t b = peek s b) ∧
      t = { s with wram := t.wram, sram := t.sram }

/-- Rules R93, R96. -/
def Obligations.PaletteRoundTrip : Prop :=
  (∀ (s : State) (a b : Nat) (v : Byte), MemoriesWf s → 0x3F00 ≤ a % 0x4000 → 0x3F00 ≤ b % 0x4000 →
    ∃ t, ppuWrite s a v = .ok () t ∧ ppuRead t a = v ∧
      ppuRead t b = (if palIndex a = palIndex b then v else ppuRead s b) ∧
      t = { s with ppu := { s.ppu with palette := t.ppu.palette } }) ∧
  (∀ a b : Nat, palIndex a = palIndex b ↔
    a % 32 = b % 32 ∨ (a % 4 = 0 ∧ b % 4 = 0 ∧ a % 16 = b % 16))

/-- Rules R91, R92, R94, R95. -/
def Obligations.PictureBusMap : Prop :=
  ∀ (s : State) (a b : Nat) (v : Byte), MemoriesWf s →
    (ppuRead s a = ppuRead s (a % 0x4000) ∧ ppuWrite s a v = ppuWrite s (a % 0x4000) v) ∧
    (a < 0x2000 → ppuRead s a = s.cart.chr.read a ∧
      ppuWrite s a v = .fatal (.unimplemented .patternData a (some v)) s) ∧
    (0x2000 ≤ a → a < 0x3000 → 0x2000 ≤ b → b < 0x3000 →
      ∃ t, ppuWrite s a v = .ok () t ∧ (sameNametableByte s.cart.mirroring a b → ppuRead t b = v) ∧
        (¬ sameNametableByte s.cart.mirroring a b → ppuRead t b = ppuRead s b) ∧
        t = { s with ppu := { s.ppu with nametable := t.ppu.nametable } }) ∧
    (0x3000 ≤ a → a < 0x3F00 →
      ppuRead s a = ppuRead s (a - 0x1000) ∧ ppuWrite s a v = ppuWrite s (a - 0x1000) v) ∧
    (0x3F00 ≤ a → a < 0x4000 → ppuRead s a = s.ppu.palette.read (palIndex a))

/-- Rules R44, R77, with the reads of rules R71-R78 and R357-R367. That the write itself adds OAM_DMA_STALL to cycles
is the model's choice (log entry 7); the controller's bit is log entry 6, the state a fatal read leaves log entry 12.
-/
def Obligations.OamDmaCopies : Prop :=
  (∀ (s : State) (page : Byte), MemoriesWf s → page.toNat < 0x20 ∨ 0x60 ≤ page.toNat →
    ∃ t, memWrite s 0x4014 page = .ok () t ∧
      (∀ k : Byte, peek s (page ++ k) = some (t.ppu.oam.read (s.ppu.oamAddr + k).toNat)) ∧
      t = { s with
        ppu := { s.ppu with oam := t.ppu.oam }
        cpu := { s.cpu with cycles := s.cpu.cycles + s.params.oamDmaStall } }) ∧
  (∀ (s : State) (page : Byte), MemoriesWf s → 0x20 ≤ page.toNat → page.toNat < 0x40 →
    ∃ t, memWrite s 0x4014 page = .ok () t ∧
      (∀ k : Byte, t.ppu.oam.read (s.ppu.oamAddr + k).toNat = pageOfRegisters s k.toNat) ∧
      t = { s with
        ppu := { s.ppu with
          oam := t.ppu.oam, vblank := false, w := false, v := s.ppu.v + 32 * portStep s.ppu
          readBuffer := portFill s 31 }
        cpu := { s.cpu with cycles := s.cpu.cycles + s.params.oamDmaStall } }) ∧
  (∀ s : State, MemoriesWf s →
    ∃ t, memWrite s 0x4014 0x40 = .fatal (.unimplemented .expansion 0x4020 none) t ∧
      (∀ k : Byte, t.ppu.oam.read (s.ppu.oamAddr + k).toNat =
        if k.toNat = 22 then s.params.controllerReadUpper ++ (controllerRead s).1
        else if k.toNat < 32 then s.params.ioReadValue else s.ppu.oam.read (s.ppu.oamAddr + k).toNat) ∧
      t = { s with ppu := { s.ppu with oam := t.ppu.oam }, host := (controllerRead s).2.host }) ∧
  (∀ (s : State) (page : Byte), 0x41 ≤ page.toNat → page.toNat < 0x60 →
    memWrite s 0x4014 page = .fatal (.unimplemented .expansion (page.toNat * 256) none) s)

/-- Rules R84, R85. -/
def Obligations.StackRoundTrip : Prop :=
  ∀ (s : State) (w : Word) (v : Byte), MemoriesWf s →
    (∃ t, push16 s w = .ok () t ∧ t.wram.read (below s 0) = hiByte w ∧ t.wram.read (below s 1) = loByte w ∧
      (∀ k, k ≠ below s 0 → k ≠ below s 1 → t.wram.read k = s.wram.read k) ∧
      t = { s with wram := t.wram, cpu := { s.cpu with sp := s.cpu.sp - 2 } } ∧
      pull16 t = .ok w { t with cpu := s.cpu }) ∧
    (∃ t, push s v = .ok () t ∧ t.wram.read (below s 0) = v ∧
      (∀ k, k ≠ below s 0 → t.wram.read k = s.wram.read k) ∧
      t = { s with wram := t.wram, cpu := { s.cpu with sp := s.cpu.sp - 1 } } ∧
      pull t = .ok v { t with cpu := s.cpu })

/-- Rules R357, R358, R367. -/
def Obligations.StatusRegister : Prop :=
  ∀ (s : State) (a : Word),
    (pictureReg a 2 → ∃ v : Byte,
      memRead s a = .ok v { s with ppu := { s.ppu with vblank := false, w := false } } ∧
      v.getLsbD 7 = s.ppu.vblank ∧ v.getLsbD 6 = s.ppu.sprite0Hit ∧ v.getLsbD 5 = s.ppu.spriteOverflow ∧
      (∀ k, k < 5 → v.getLsbD k = s.params.ppuOpenBus.getLsbD k) ∧ ∀ x, memWrite s a x = .ok () s) ∧
    (pictureReg a 0 ∨ pictureReg a 1 ∨ pictureReg a 3 ∨ pictureReg a 5 ∨ pictureReg a 6 →
      memRead s a = .ok s.params.ppuOpenBus s)

/-- Rules R354, R356. -/
def Obligations.ControlAndMask : Prop :=
  ∀ (s : State) (a : Word) (v : Byte),
    (pictureReg a 0 → ∃ t : State,
      memWrite s a v = .ok () t ∧
      t = { s with
        ppu := { s.ppu with ctrl := v, t := t.ppu.t }
        nmiPending := s.nmiPending ||
          (s.params.nmiOnCtrlEnable && !s.ppu.ctrl.getLsbD 7 && v.getLsbD 7 && s.ppu.vblank) } ∧
      ∀ k, k < 15 → t.ppu.t.getLsbD k = if k = 10 ∨ k = 11 then v.getLsbD (k - 10) else s.ppu.t.getLsbD k) ∧
    (pictureReg a 1 → memWrite s a v = .ok () { s with ppu := { s.ppu with mask := v } })

/-- Rules R359-R361. -/
def Obligations.OamPort : Prop :=
  ∀ (s : State) (a : Word) (v : Byte),
    (pictureReg a 3 → memWrite s a v = .ok () { s with ppu := { s.ppu with oamAddr := v } }) ∧
    (pictureReg a 4 → MemoriesWf s → ∃ t,
      memWrite s a v = .ok () t ∧ t.ppu.oam.read s.ppu.oamAddr.toNat = v ∧
      (∀ k, k ≠ s.ppu.oamAddr.toNat → t.ppu.oam.read k = s.ppu.oam.read k) ∧
      t = { s with ppu := { s.ppu with oam := t.ppu.oam, oamAddr := s.ppu.oamAddr + 1 } }) ∧
    (pictureReg a 4 → memRead s a = .ok (s.ppu.oam.read s.ppu.oamAddr.toNat) s)

/-- Rules R362, R363. -/
def Obligations.ScrollAddressPorts : Prop :=
  ∀ (s : State) (a : Word) (val : Byte),
    (pictureReg a 5 → s.ppu.w = false → ∃ t : BitVec 15,
      memWrite s a val = .ok () { s with ppu := { s.ppu with t := t, x := val.setWidth 3, w := true } } ∧
      ∀ k, k < 15 → t.getLsbD k = if k < 5 then val.getLsbD (k + 3) else s.ppu.t.getLsbD k) ∧
    (pictureReg a 5 → s.ppu.w = true → ∃ t : BitVec 15,
      memWrite s a val = .ok () { s with ppu := { s.ppu with t := t, w := false } } ∧
      ∀ k, k < 15 → t.getLsbD k =
        if 12 ≤ k then val.getLsbD (k - 12)
        else if 5 ≤ k ∧ k < 10 then val.getLsbD (k - 2) else s.ppu.t.getLsbD k) ∧
    (pictureReg a 6 → s.ppu.w = false → ∃ t : BitVec 15,
      memWrite s a val = .ok () { s with ppu := { s.ppu with t := t, w := true } } ∧
      ∀ k, k < 15 → t.getLsbD k =
        if k = 14 then false else if 8 ≤ k then val.getLsbD (k - 8) else s.ppu.t.getLsbD k) ∧
    (pictureReg a 6 → s.ppu.w = true → ∃ t : BitVec 15,
      memWrite s a val = .ok () { s with ppu := { s.ppu with t := t, v := t, w := false } } ∧
      ∀ k, k < 15 → t.getLsbD k = if k < 8 then val.getLsbD k else s.ppu.t.getLsbD k)

/-- Rules R364-R366. -/
def Obligations.DataPort : Prop :=
  ∀ (s : State) (a : Word), pictureReg a 7 →
    (s.ppu.v.toNat % 0x4000 < 0x3F00 →
      memRead s a = .ok s.ppu.readBuffer { s with ppu := { s.ppu with
        readBuffer := ppuRead s (s.ppu.v.toNat % 0x4000), v := s.ppu.v + portStep s.ppu } }) ∧
    (0x3F00 ≤ s.ppu.v.toNat % 0x4000 →
      memRead s a = .ok (ppuRead s (s.ppu.v.toNat % 0x4000)) { s with ppu := { s.ppu with
        readBuffer := ppuRead s (s.ppu.v.toNat % 0x4000 - 0x1000), v := s.ppu.v + portStep s.ppu } }) ∧
    (∀ (v : Byte) (t : State), ppuWrite s (s.ppu.v.toNat % 0x4000) v = .ok () t →
      memWrite s a v = .ok () { t with ppu := { t.ppu with v := s.ppu.v + portStep s.ppu } }) ∧
    (∀ (v : Byte) (f : Fatal) (t : State), ppuWrite s (s.ppu.v.toNat % 0x4000) v = .fatal f t →
      memWrite s a v = .fatal f t)

/-- Rules R180-R182, R322. -/
def Obligations.LoadInstructions : Prop :=
  EveryForm
      [(0xA1, .indx), (0xA5, .zp), (0xA9, .imm), (0xAD, .abs), (0xB1, .indy), (0xB5, .zpx), (0xB9, .absy),
       (0xBD, .absx)]
    (fun i =>
      ReadsOperand i fun v s => withZN v { s with cpu := { s.cpu with a := v } }) ∧
  EveryForm
      [(0xA2, .imm), (0xA6, .zp), (0xAE, .abs), (0xB6, .zpy), (0xBE, .absy)]
    (fun i =>
      ReadsOperand i fun v s => withZN v { s with cpu := { s.cpu with x := v } }) ∧
  EveryForm
      [(0xA0, .imm), (0xA4, .zp), (0xAC, .abs), (0xB4, .zpx), (0xBC, .absx)]
    (fun i =>
      ReadsOperand i fun v s => withZN v { s with cpu := { s.cpu with y := v } }) ∧
  EveryForm
      [(0xA3, .indx), (0xA7, .zp), (0xAF, .abs), (0xB3, .indy), (0xB7, .zpy), (0xBF, .absy)]
    (fun i =>
      ReadsOperand i fun v s => withZN v { s with cpu := { s.cpu with a := v, x := v } })

/-- Rules R183-R185, R323. -/
def Obligations.StoreInstructions : Prop :=
  EveryForm
      [(0x81, .indx), (0x85, .zp), (0x8D, .abs), (0x91, .indy), (0x95, .zpx), (0x99, .absy), (0x9D, .absx)]
    (fun i =>
      StoresValue i fun c => c.a) ∧
  EveryForm
      [(0x86, .zp), (0x8E, .abs), (0x96, .zpy)]
    (fun i =>
      StoresValue i fun c => c.x) ∧
  EveryForm
      [(0x84, .zp), (0x8C, .abs), (0x94, .zpx)]
    (fun i =>
      StoresValue i fun c => c.y) ∧
  EveryForm
      [(0x83, .indx), (0x87, .zp), (0x8F, .abs), (0x97, .zpy)]
    (fun i =>
      StoresValue i fun c => c.a &&& c.x)

/-- Rules R186-R191, R246-R249. -/
def Obligations.RegisterInstructions : Prop :=
  RegisterOnly .tax 0xAA (fun c => cpuZN c.a { c with x := c.a }) ∧
  RegisterOnly .tay 0xA8 (fun c => cpuZN c.a { c with y := c.a }) ∧
  RegisterOnly .txa 0x8A (fun c => cpuZN c.x { c with a := c.x }) ∧
  RegisterOnly .tya 0x98 (fun c => cpuZN c.y { c with a := c.y }) ∧
  RegisterOnly .tsx 0xBA (fun c => cpuZN c.sp { c with x := c.sp }) ∧
  RegisterOnly .txs 0x9A (fun c => { c with sp := c.x }) ∧
  RegisterOnly .inx 0xE8 (fun c => cpuZN (c.x + 1) { c with x := c.x + 1 }) ∧
  RegisterOnly .iny 0xC8 (fun c => cpuZN (c.y + 1) { c with y := c.y + 1 }) ∧
  RegisterOnly .dex 0xCA (fun c => cpuZN (c.x - 1) { c with x := c.x - 1 }) ∧
  RegisterOnly .dey 0x88 (fun c => cpuZN (c.y - 1) { c with y := c.y - 1 })

/-- Rules R43, R211-R213, R324. -/
def Obligations.AddSubtractInstructions : Prop :=
  EveryForm
      [(0x61, .indx), (0x65, .zp), (0x69, .imm), (0x6D, .abs), (0x71, .indy), (0x75, .zpx), (0x79, .absy),
       (0x7D, .absx)]
    (fun i =>
      ReadsOperand i fun m s => withSum m s) ∧
  EveryForm
      [(0xE1, .indx), (0xE5, .zp), (0xE9, .imm), (0xED, .abs), (0xF1, .indy), (0xF5, .zpx), (0xF9, .absy),
       (0xFD, .absx)]
    (fun i =>
      ReadsOperand i fun m s => withSum (m ^^^ 0xFF) s) ∧
  EveryForm
      [(0xEB, .imm)]
    (fun i =>
      ReadsOperand i fun m s => withSum (m ^^^ 0xFF) s) ∧
  ∀ (m : Byte) (s : State) (d : Bool), withSum m { s with cpu := { s.cpu with d := d } } =
    { withSum m s with cpu := { (withSum m s).cpu with d := d } }

/-- Rules R210, R211, R213: the two forms of the adder against integer arithmetic. -/
def Obligations.SignedOverflow : Prop :=
  ∀ (s : State) (m : Byte),
    ((addWithCarry s m).cpu.c = decide (255 < s.cpu.a.toNat + m.toNat + s.cpu.c.toNat)) ∧
    ((addWithCarry s m).cpu.v =
      decide (s.cpu.a.toInt + m.toInt + s.cpu.c.toNat < -128 ∨ 127 < s.cpu.a.toInt + m.toInt + s.cpu.c.toNat)) ∧
    ((addWithCarry s m).cpu.a.toNat = (s.cpu.a.toNat + m.toNat + s.cpu.c.toNat) % 256) ∧
    ((addWithCarry s (m ^^^ 0xFF)).cpu.c = decide (m.toNat + (1 - s.cpu.c.toNat) ≤ s.cpu.a.toNat)) ∧
    ((addWithCarry s (m ^^^ 0xFF)).cpu.v =
      decide (s.cpu.a.toInt - m.toInt - (1 - s.cpu.c.toNat : Nat) < -128 ∨
        127 < s.cpu.a.toInt - m.toInt - (1 - s.cpu.c.toNat : Nat))) ∧
    (((addWithCarry s (m ^^^ 0xFF)).cpu.a.toNat : Int) =
      ((s.cpu.a.toNat : Int) - m.toNat - (1 - s.cpu.c.toNat : Nat)) % 256)

/-- Rules R214-R216. -/
def Obligations.LogicInstructions : Prop :=
  EveryForm
      [(0x21, .indx), (0x25, .zp), (0x29, .imm), (0x2D, .abs), (0x31, .indy), (0x35, .zpx), (0x39, .absy),
       (0x3D, .absx)]
    (fun i =>
      ReadsOperand i fun m s => withZN (s.cpu.a &&& m) { s with cpu := { s.cpu with a := s.cpu.a &&& m } }) ∧
  EveryForm
      [(0x01, .indx), (0x05, .zp), (0x09, .imm), (0x0D, .abs), (0x11, .indy), (0x15, .zpx), (0x19, .absy),
       (0x1D, .absx)]
    (fun i =>
      ReadsOperand i fun m s => withZN (s.cpu.a ||| m) { s with cpu := { s.cpu with a := s.cpu.a ||| m } }) ∧
  EveryForm
      [(0x41, .indx), (0x45, .zp), (0x49, .imm), (0x4D, .abs), (0x51, .indy), (0x55, .zpx), (0x59, .absy),
       (0x5D, .absx)]
    (fun i =>
      ReadsOperand i fun m s => withZN (s.cpu.a ^^^ m) { s with cpu := { s.cpu with a := s.cpu.a ^^^ m } })

/-- Rules R217-R221. -/
def Obligations.CompareAndBitTest : Prop :=
  EveryForm
      [(0xC1, .indx), (0xC5, .zp), (0xC9, .imm), (0xCD, .abs), (0xD1, .indy), (0xD5, .zpx), (0xD9, .absy),
       (0xDD, .absx)]
    (fun i =>
      ReadsOperand i fun m s => withCompare s.cpu.a m s) ∧
  EveryForm
      [(0xE0, .imm), (0xE4, .zp), (0xEC, .abs)]
    (fun i =>
      ReadsOperand i fun m s => withCompare s.cpu.x m s) ∧
  EveryForm
      [(0xC0, .imm), (0xC4, .zp), (0xCC, .abs)]
    (fun i =>
      ReadsOperand i fun m s => withCompare s.cpu.y m s) ∧
  EveryForm
      [(0x24, .zp), (0x2C, .abs)]
    (fun i =>
      ReadsOperand i fun m s =>
        { s with cpu := { s.cpu with z := decide (s.cpu.a &&& m = 0), v := m.getLsbD 6, n := m.getLsbD 7 } })

/-- Rules R240-R243. -/
def Obligations.ShiftInstructions : Prop :=
  EveryForm
      [(0x06, .zp), (0x0A, .acc), (0x0E, .abs), (0x16, .zpx), (0x1E, .absx)]
    (fun i =>
      ModifiesOperand i (fun _ m => m.getLsbD 7) (fun _ m => BitVec.ofNat 8 (2 * m.toNat % 256)) withZN) ∧
  EveryForm
      [(0x46, .zp), (0x4A, .acc), (0x4E, .abs), (0x56, .zpx), (0x5E, .absx)]
    (fun i =>
      ModifiesOperand i (fun _ m => m.getLsbD 0) (fun _ m => BitVec.ofNat 8 (m.toNat / 2)) withZN) ∧
  EveryForm
      [(0x26, .zp), (0x2A, .acc), (0x2E, .abs), (0x36, .zpx), (0x3E, .absx)]
    (fun i =>
      ModifiesOperand i (fun _ m => m.getLsbD 7)
        (fun c m => BitVec.ofNat 8 ((2 * m.toNat + c.toNat) % 256)) withZN) ∧
  EveryForm
      [(0x66, .zp), (0x6A, .acc), (0x6E, .abs), (0x76, .zpx), (0x7E, .absx)]
    (fun i =>
      ModifiesOperand i (fun _ m => m.getLsbD 0)
        (fun c m => BitVec.ofNat 8 (m.toNat / 2 + 128 * c.toNat)) withZN)

/-- Rules R244, R245. -/
def Obligations.IncrementDecrementMemory : Prop :=
  EveryForm
      [(0xE6, .zp), (0xEE, .abs), (0xF6, .zpx), (0xFE, .absx)]
    (fun i =>
      ModifiesOperand i (fun c _ => c) (fun _ m => m + 1) withZN) ∧
  EveryForm
      [(0xC6, .zp), (0xCE, .abs), (0xD6, .zpx), (0xDE, .absx)]
    (fun i =>
      ModifiesOperand i (fun c _ => c) (fun _ m => m - 1) withZN)

/-- Rules R260-R268. -/
def Obligations.BranchInstructions : Prop :=
  ∀ (s : State) (d : Byte),
    (encode (.bcc d) = [0x90, d] ∧ exec (.bcc d) s = .next (branched (!s.cpu.c) d s)) ∧
    (encode (.bcs d) = [0xB0, d] ∧ exec (.bcs d) s = .next (branched (s.cpu.c) d s)) ∧
    (encode (.beq d) = [0xF0, d] ∧ exec (.beq d) s = .next (branched (s.cpu.z) d s)) ∧
    (encode (.bne d) = [0xD0, d] ∧ exec (.bne d) s = .next (branched (!s.cpu.z) d s)) ∧
    (encode (.bmi d) = [0x30, d] ∧ exec (.bmi d) s = .next (branched (s.cpu.n) d s)) ∧
    (encode (.bpl d) = [0x10, d] ∧ exec (.bpl d) s = .next (branched (!s.cpu.n) d s)) ∧
    (encode (.bvc d) = [0x50, d] ∧ exec (.bvc d) s = .next (branched (!s.cpu.v) d s)) ∧
    (encode (.bvs d) = [0x70, d] ∧ exec (.bvs d) s = .next (branched (s.cpu.v) d s))

/-- Rules R160, R269. -/
def Obligations.JumpInstructions : Prop :=
  (∀ (s : State) (a : Word), encode (.jmpAbs a) = [0x4C, loByte a, hiByte a] ∧
    exec (.jmpAbs a) s = .next { s with cpu := { s.cpu with pc := a, cycles := s.cpu.cycles + 3 } }) ∧
  (∀ (s : State) (a : Word), encode (.jmpInd a) = [0x6C, loByte a, hiByte a] ∧
    (∀ lo hi t u, memRead s a = .ok lo t → memRead t (samePageNext a) = .ok hi u →
      exec (.jmpInd a) s = .next { u with cpu := { u.cpu with pc := wordOf hi lo, cycles := u.cpu.cycles + 5 } }) ∧
    (∀ f t, memRead s a = .fatal f t → exec (.jmpInd a) s = faulted f t) ∧
    (∀ lo t f u, memRead s a = .ok lo t → memRead t (samePageNext a) = .fatal f u → exec (.jmpInd a) s = faulted f u))

/-- Rules R270, R271. -/
def Obligations.CallAndReturn : Prop :=
  ∀ (s : State) (a : Word),
    encode (.jsrAbs a) = [0x20, loByte a, hiByte a] ∧ encode .rts = [0x60] ∧
    exec (.jsrAbs a) s = .next { s with
      wram := (s.wram.write (below s 0) (hiByte (s.cpu.pc + 2))).write (below s 1) (loByte (s.cpu.pc + 2))
      cpu := { s.cpu with sp := s.cpu.sp - 2, pc := a, cycles := s.cpu.cycles + 6 } } ∧
    exec .rts s = .next { s with cpu := { s.cpu with
      sp := s.cpu.sp + 2, pc := wordOf (s.wram.read (above s 2)) (s.wram.read (above s 1)) + 1,
      cycles := s.cpu.cycles + 6 } }

/-- Rules R272, R273. -/
def Obligations.ExceptionInstructions : Prop :=
  ∀ s : State,
    encode .brk = [0x00] ∧ encode .rti = [0x40] ∧
    exec .brk s = .next (entered s (s.cpu.pc + 2) (packP s.cpu ||| 0x30) 0xFFFE 7) ∧
    exec .rti s = .next { s with cpu := { withStatus (s.wram.read (above s 1)) s.cpu with
      sp := s.cpu.sp + 3, pc := wordOf (s.wram.read (above s 3)) (s.wram.read (above s 2)),
      cycles := s.cpu.cycles + 6 } }

/-- Rules R290-R293. -/
def Obligations.StackInstructions : Prop :=
  ∀ s : State,
    encode .pha = [0x48] ∧ encode .php = [0x08] ∧ encode .pla = [0x68] ∧ encode .plp = [0x28] ∧
    exec .pha s = .next { s with
      wram := s.wram.write (below s 0) s.cpu.a
      cpu := { s.cpu with sp := s.cpu.sp - 1, pc := s.cpu.pc + 1, cycles := s.cpu.cycles + 3 } } ∧
    exec .php s = .next { s with
      wram := s.wram.write (below s 0) (packP s.cpu ||| 0x30)
      cpu := { s.cpu with sp := s.cpu.sp - 1, pc := s.cpu.pc + 1, cycles := s.cpu.cycles + 3 } } ∧
    exec .pla s = .next { s with cpu := { cpuZN (s.wram.read (above s 1)) s.cpu with
      a := s.wram.read (above s 1), sp := s.cpu.sp + 1, pc := s.cpu.pc + 1, cycles := s.cpu.cycles + 4 } } ∧
    exec .plp s = .next { s with cpu := { withStatus (s.wram.read (above s 1)) s.cpu with
      sp := s.cpu.sp + 1, pc := s.cpu.pc + 1, cycles := s.cpu.cycles + 4 } }

/-- Rules R294-R301. -/
def Obligations.FlagInstructions : Prop :=
  RegisterOnly .clc 0x18 (fun c => { c with c := false }) ∧
  RegisterOnly .sec 0x38 (fun c => { c with c := true }) ∧
  RegisterOnly .cli 0x58 (fun c => { c with i := false }) ∧
  RegisterOnly .sei 0x78 (fun c => { c with i := true }) ∧
  RegisterOnly .cld 0xD8 (fun c => { c with d := false }) ∧
  RegisterOnly .sed 0xF8 (fun c => { c with d := true }) ∧
  RegisterOnly .clv 0xB8 (fun c => { c with v := false }) ∧
  RegisterOnly .nop 0xEA (fun c => c)

/-- Rule R321. -/
def Obligations.UnofficialNop : Prop :=
  EveryForm
      [(0x04, .zp), (0x0C, .abs), (0x14, .zpx), (0x1A, .imp), (0x1C, .absx), (0x34, .zpx), (0x3A, .imp),
       (0x3C, .absx), (0x44, .zp), (0x54, .zpx), (0x5A, .imp), (0x5C, .absx), (0x64, .zp), (0x74, .zpx),
       (0x7A, .imp), (0x7C, .absx), (0x80, .imm), (0x82, .imm), (0x89, .imm), (0xC2, .imm), (0xD4, .zpx),
       (0xDA, .imp), (0xDC, .absx), (0xE2, .imm), (0xF4, .zpx), (0xFA, .imp), (0xFC, .absx)]
    (fun i =>
      ∀ s, exec i s = .next ((past s i.operand).addCycles (readCost s i.operand)))

/-- Rules R325-R330. -/
def Obligations.UnofficialReadModifyWrite : Prop :=
  EveryForm
      [(0xC3, .indx), (0xC7, .zp), (0xCF, .abs), (0xD3, .indy), (0xD7, .zpx), (0xDB, .absy), (0xDF, .absx)]
    (fun i =>
      ModifiesOperand i (fun c _ => c) (fun _ m => m - 1) fun r s => withCompare s.cpu.a r s) ∧
  EveryForm
      [(0xE3, .indx), (0xE7, .zp), (0xEF, .abs), (0xF3, .indy), (0xF7, .zpx), (0xFB, .absy), (0xFF, .absx)]
    (fun i =>
      ModifiesOperand i (fun c _ => c) (fun _ m => m + 1) fun r s => withSum (r ^^^ 0xFF) s) ∧
  EveryForm
      [(0x03, .indx), (0x07, .zp), (0x0F, .abs), (0x13, .indy), (0x17, .zpx), (0x1B, .absy), (0x1F, .absx)]
    (fun i =>
      ModifiesOperand i (fun _ m => m.getLsbD 7) (fun _ m => BitVec.ofNat 8 (2 * m.toNat % 256)) fun r s =>
        withZN (s.cpu.a ||| r) { s with cpu := { s.cpu with a := s.cpu.a ||| r } }) ∧
  EveryForm
      [(0x23, .indx), (0x27, .zp), (0x2F, .abs), (0x33, .indy), (0x37, .zpx), (0x3B, .absy), (0x3F, .absx)]
    (fun i =>
      ModifiesOperand i (fun _ m => m.getLsbD 7)
        (fun c m => BitVec.ofNat 8 ((2 * m.toNat + c.toNat) % 256)) fun r s =>
        withZN (s.cpu.a &&& r) { s with cpu := { s.cpu with a := s.cpu.a &&& r } }) ∧
  EveryForm
      [(0x43, .indx), (0x47, .zp), (0x4F, .abs), (0x53, .indy), (0x57, .zpx), (0x5B, .absy), (0x5F, .absx)]
    (fun i =>
      ModifiesOperand i (fun _ m => m.getLsbD 0) (fun _ m => BitVec.ofNat 8 (m.toNat / 2)) fun r s =>
        withZN (s.cpu.a ^^^ r) { s with cpu := { s.cpu with a := s.cpu.a ^^^ r } }) ∧
  EveryForm
      [(0x63, .indx), (0x67, .zp), (0x6F, .abs), (0x73, .indy), (0x77, .zpx), (0x7B, .absy), (0x7F, .absx)]
    (fun i =>
      ModifiesOperand i (fun _ m => m.getLsbD 0)
        (fun c m => BitVec.ofNat 8 (m.toNat / 2 + 128 * c.toNat)) fun r s =>
        withSum r s)

/-- Rules R150, R164, R165, R260, R545, over the cycle columns of rule R126. -/
def Obligations.InstructionCost : Prop :=
  ∀ (i : Instr) (s t : State) (r : TableRow), r ∈ dispatchTable → r.op = opcodeOf i → exec i s = .next t →
    t.cpu.cycles = s.cpu.cycles + r.cycles + (r.pageCross && crosses s i.operand).toNat + branchExtra s i +
      (if storeAddr s i = some 0x4014 then s.params.oamDmaStall else 0)

/-- Rules R30-R34, R150: the register frame of every instruction. -/
def Obligations.RegisterWriters : Prop :=
  ∀ (i : Instr) (s t : State), exec i s = .next t →
    (i.mnemonic ∉ ["LDA", "PLA", "TXA", "TYA", "ADC", "SBC", "AND", "ORA", "EOR", "*LAX", "*SLO", "*RLA", "*SRE",
      "*RRA", "*ISB", "*SBC"] → i.operand ≠ .acc → t.cpu.a = s.cpu.a) ∧
    (i.mnemonic ∉ ["LDX", "TAX", "TSX", "INX", "DEX", "*LAX"] → t.cpu.x = s.cpu.x) ∧
    (i.mnemonic ∉ ["LDY", "TAY", "INY", "DEY"] → t.cpu.y = s.cpu.y) ∧
    (i.mnemonic ∉ ["TXS", "PHA", "PHP", "PLA", "PLP", "JSR", "RTS", "RTI", "BRK"] → t.cpu.sp = s.cpu.sp) ∧
    (i.mnemonic ∉ ["BCC", "BCS", "BEQ", "BNE", "BMI", "BPL", "BVC", "BVS", "JMP", "JSR", "RTS", "RTI", "BRK"] →
      t.cpu.pc = s.cpu.pc + BitVec.ofNat 16 i.operand.length)

/-- Rules R39, R41: the flag frame of every instruction. -/
def Obligations.FlagWriters : Prop :=
  ∀ (i : Instr) (s t : State), exec i s = .next t →
    (i.mnemonic ∉ ["ADC", "SBC", "*SBC", "CMP", "CPX", "CPY", "ASL", "LSR", "ROL", "ROR", "CLC", "SEC", "PLP", "RTI",
      "*SLO", "*RLA", "*SRE", "*RRA", "*DCP", "*ISB"] → t.cpu.c = s.cpu.c) ∧
    (i.mnemonic ∉ ["LDA", "LDX", "LDY", "TAX", "TAY", "TXA", "TYA", "TSX", "ADC", "SBC", "*SBC", "AND", "ORA", "EOR",
      "CMP", "CPX", "CPY", "BIT", "ASL", "LSR", "ROL", "ROR", "INC", "DEC", "INX", "INY", "DEX", "DEY", "PLA", "PLP",
      "RTI", "*LAX", "*SLO", "*RLA", "*SRE", "*RRA", "*DCP", "*ISB"] → t.cpu.z = s.cpu.z ∧ t.cpu.n = s.cpu.n) ∧
    (i.mnemonic ∉ ["ADC", "SBC", "*SBC", "BIT", "CLV", "PLP", "RTI", "*RRA", "*ISB"] → t.cpu.v = s.cpu.v) ∧
    (i.mnemonic ∉ ["CLI", "SEI", "PLP", "RTI", "BRK"] → t.cpu.i = s.cpu.i) ∧
    (i.mnemonic ∉ ["CLD", "SED", "PLP", "RTI"] → t.cpu.d = s.cpu.d) ∧
    (i.mnemonic ∉ ["PLP", "RTI"] → t.cpu.b = s.cpu.b) ∧
    (i.mnemonic = "PLP" ∨ i.mnemonic = "RTI" → t.cpu.b = false)

/-- Rules R90, R166: the memory frame of every instruction. -/
def Obligations.MemoryFrame : Prop :=
  ∀ (i : Instr) (s t : State) (a : Word), MemoriesWf s → exec i s = .next t →
    (∀ ea, storeAddr s i = some ea → ¬ sameRamByte ea a) →
    (∀ k, k < pushed i → ¬ sameRamByte (0x01#8 ++ (s.cpu.sp - BitVec.ofNat 8 k)) a) →
    peek t a = peek s a

/-- Rules R60, R62, R467, R471. -/
def Obligations.PictureAndHostFrame : Prop :=
  ∀ (i : Instr) (s t : State), exec i s = .next t →
    t.cart = s.cart ∧ t.params = s.params ∧ t.fault = s.fault ∧
    ((∀ ea, loading i || storing i = true → operandAddr s i.operand = some ea →
        (ea.toNat < 0x2000 ∨ 0x4000 ≤ ea.toNat) ∧ ea ≠ 0x4014 ∧ ea ≠ 0x4016) →
      (∀ a, i.operand = .ind a → a.toNat < 0x2000 ∨ 0x6000 ≤ a.toNat) →
      t.ppu = s.ppu ∧ t.nmiPending = s.nmiPending ∧ t.host = s.host)

/-- Rules R464, R469, R492-R494. That the levels of irq_line are a list in the host port, one taken at each check, low
when it is empty, is the model's choice (log entries 8 and 9). -/
def Obligations.InterruptChecks : Prop :=
  ∀ s : State,
    let u := { s with host := { s.host with irqLevels := s.host.irqLevels.tail } }
    let line := s.host.irqLevels.headD false
    let status := (packP s.cpu &&& 0xEF) ||| (if s.params.intPushB then 0x30 else 0x20)
    (s.nmiPending = true → interruptCheck s =
      .ok () (ppuTicks 21 (entered { u with nmiPending := false } s.cpu.pc status 0xFFFA 7))) ∧
    (s.nmiPending = false → line = true → s.cpu.i = false → interruptCheck s =
      .ok () (ppuTicks 21 (entered u s.cpu.pc status 0xFFFE 7))) ∧
    (s.nmiPending = false → line = false ∨ s.cpu.i = true → interruptCheck s = .ok () u)

/-- Rules R272, R493, R499. -/
def Obligations.InterruptThenReturn : Prop :=
  ∀ (s : State) (vector : Word), MemoriesWf s → 0x8000 ≤ vector.toNat → vector.toNat < 0xFFFF →
    ∃ t u, interruptEntry s vector = .ok () t ∧ exec .rti t = .next u ∧
      u.cpu = { s.cpu with b := false, cycles := s.cpu.cycles + 13 } ∧
      (∀ k, k ≠ below s 0 → k ≠ below s 1 → k ≠ below s 2 → u.wram.read k = s.wram.read k) ∧
      u = { s with cpu := u.cpu, wram := u.wram }

/-- Rule R401. -/
def Obligations.CounterAdvance : Prop :=
  ∀ s : State, s.ppu.scanline ≤ 261 → s.ppu.dot ≤ 340 →
    (skips s → (ppuTick s).ppu.scanline = 0 ∧ (ppuTick s).ppu.dot = 0 ∧ (ppuTick s).ppu.oddFrame = false) ∧
    (¬ skips s → s.ppu.dot < 340 → (ppuTick s).ppu.scanline = s.ppu.scanline ∧
      (ppuTick s).ppu.dot = s.ppu.dot + 1 ∧ (ppuTick s).ppu.oddFrame = s.ppu.oddFrame) ∧
    (s.ppu.dot = 340 → s.ppu.scanline < 261 → (ppuTick s).ppu.scanline = s.ppu.scanline + 1 ∧
      (ppuTick s).ppu.dot = 0 ∧ (ppuTick s).ppu.oddFrame = s.ppu.oddFrame) ∧
    (s.ppu.dot = 340 → s.ppu.scanline = 261 → (ppuTick s).ppu.scanline = 0 ∧
      (ppuTick s).ppu.dot = 0 ∧ (ppuTick s).ppu.oddFrame = !s.ppu.oddFrame)

/-- Rules R401, R547. -/
def Obligations.FrameLength : Prop :=
  ∀ s : State, s.ppu.scanline = 0 → s.ppu.dot = 0 →
    let short := s.ppu.oddFrame = true ∧
      (s.params.oddFrameSkip = .always ∨ s.ppu.mask.getLsbD 3 = true ∨ s.ppu.mask.getLsbD 4 = true)
    ∀ n, (short → n = 89341) → (¬ short → n = 89342) →
      (ppuTicks n s).ppu.scanline = 0 ∧ (ppuTicks n s).ppu.dot = 0 ∧ (ppuTicks n s).ppu.oddFrame = !s.ppu.oddFrame ∧
      ∀ k, 0 < k → k < n → ¬ ((ppuTicks k s).ppu.scanline = 0 ∧ (ppuTicks k s).ppu.dot = 0)

/-- Rules R440-R442, R467, R468, R474. The count of frames and the copy handed over are the model's fields (log entry
8); that the handoff leaves the frame as it is is DEDUCED (log entry 17). -/
def Obligations.StatusEvents : Prop :=
  ∀ s : State,
    (s.ppu.scanline = 241 → s.ppu.dot = 1 →
      (ppuTick s).ppu.vblank = true ∧ (ppuTick s).nmiPending = (s.nmiPending || s.ppu.ctrl.getLsbD 7) ∧
      (ppuTick s).host = { s.host with framesDone := s.host.framesDone + 1, presented := s.ppu.frame } ∧
      (ppuTick s).ppu.frame = s.ppu.frame) ∧
    (s.ppu.scanline = 261 → s.ppu.dot = 1 →
      (ppuTick s).ppu.vblank = false ∧ (ppuTick s).ppu.sprite0Hit = false ∧
      (ppuTick s).ppu.spriteOverflow = false) ∧
    (¬ (s.ppu.scanline = 241 ∧ s.ppu.dot = 1) → (ppuTick s).nmiPending = s.nmiPending ∧ (ppuTick s).host = s.host ∧
      (¬ (s.ppu.scanline = 261 ∧ s.ppu.dot = 1) → (ppuTick s).ppu.vblank = s.ppu.vblank ∧
        (s.ppu.sprite0Hit = true → (ppuTick s).ppu.sprite0Hit = true) ∧
        (s.ppu.spriteOverflow = true → (ppuTick s).ppu.spriteOverflow = true))) ∧
    ppuTick s = { s with ppu := (ppuTick s).ppu, nmiPending := (ppuTick s).nmiPending, host := (ppuTick s).host } ∧
    (ppuTick s).ppu.ctrl = s.ppu.ctrl ∧ (ppuTick s).ppu.mask = s.ppu.mask ∧
    (ppuTick s).ppu.oamAddr = s.ppu.oamAddr ∧ (ppuTick s).ppu.readBuffer = s.ppu.readBuffer ∧
    (ppuTick s).ppu.oam = s.ppu.oam ∧ (ppuTick s).ppu.palette = s.ppu.palette ∧
    (ppuTick s).ppu.nametable = s.ppu.nametable

/-- Rules R420-R422, R426. -/
def Obligations.SpriteEvaluation : Prop :=
  (∀ s : State, s.ppu.scanline < 240 → renders s →
    (s.ppu.dot = 1 → (ppuTick s).ppu.secondary = [] ∧ (ppuTick s).ppu.units = s.ppu.units) ∧
    (s.ppu.dot = 65 → s.ppu.secondary.length ≤ 8 →
      (ppuTick s).ppu.secondary = s.ppu.secondary ++ (lineSprites s.ppu).take (8 - s.ppu.secondary.length) ∧
      (ppuTick s).ppu.spriteOverflow =
        (s.ppu.spriteOverflow || decide (8 < s.ppu.secondary.length + (lineSprites s.ppu).length)) ∧
      (ppuTick s).ppu.units = s.ppu.units)) ∧
  (∀ s : State, ¬ (s.ppu.scanline < 240 ∧ renders s ∧ (s.ppu.dot = 1 ∨ s.ppu.dot = 65)) →
    (ppuTick s).ppu.secondary = s.ppu.secondary) ∧
  (∀ s : State, ¬ (s.ppu.scanline < 240 ∧ renders s ∧ s.ppu.dot = 65) → ¬ (s.ppu.scanline = 261 ∧ s.ppu.dot = 1) →
    (ppuTick s).ppu.spriteOverflow = s.ppu.spriteOverflow)

/-- Rules R55, R424-R426. -/
def Obligations.SpriteFetch : Prop :=
  (∀ s : State, s.ppu.scanline < 240 → renders s → s.ppu.dot = 257 →
    (ppuTick s).ppu.units.length = s.ppu.secondary.length ∧
    (ppuTick s).ppu.secondary = s.ppu.secondary ∧
    ∀ (k : Nat) (e : SpriteEntry) (u : SpriteUnit), s.ppu.secondary[k]? = some e → (ppuTick s).ppu.units[k]? = some u →
      u.x = e.x ∧ u.palette = e.attr.setWidth 2 ∧ u.behindBg = e.attr.getLsbD 5 ∧ u.isSprite0 = e.isSprite0 ∧
      (e.y.toNat ≤ s.ppu.scanline → s.ppu.scanline < e.y.toNat + tall s.ppu →
        flipped (e.attr.getLsbD 6) (ppuRead s (spritePatternAddr s.ppu e)) u.patternLo ∧
        flipped (e.attr.getLsbD 6) (ppuRead s (spritePatternAddr s.ppu e + 8)) u.patternHi)) ∧
  (∀ s : State, s.ppu.scanline = 261 → renders s → s.ppu.dot = 257 → (ppuTick s).ppu.units = []) ∧
  (∀ s : State, ¬ (renders s ∧ s.ppu.dot = 257) → (ppuTick s).ppu.units = s.ppu.units)

/-- Rules R403, R406, R430-R436. That a frame entry is the pair of index and emphasis is the model's choice (log entry
5). -/
def Obligations.PixelPriority : Prop :=
  (∀ (p : Ppu) (x : Nat),
    backgroundPixel p x = backgroundBits p x ∧ (∀ u, unitPixel u x = unitBits u x) ∧ IsSprite p x (spritePixel p x) ∧
    composePixel p x = (layerAddr (backgroundBits p x) (spritePixel p x) x,
      match spritePixel p x with
      | none => false
      | some u => decide ((backgroundBits p x).1 ≠ 0) && u.isSprite0 && decide (x ≠ 255))) ∧
  (∀ s : State, s.ppu.scanline < 240 → 1 ≤ s.ppu.dot → s.ppu.dot ≤ 256 →
    let p := atPixel s.ppu
    let x := s.ppu.dot - 1
    (∀ o, IsSprite p x o →
      frameGet (ppuTick s).ppu.frame s.ppu.scanline x = some (entryOf s (layerAddr (backgroundBits p x) o x))) ∧
    (∀ y x', ¬ (y = s.ppu.scanline ∧ x' = x) →
      frameGet (ppuTick s).ppu.frame y x' = frameGet s.ppu.frame y x') ∧
    ((ppuTick s).ppu.sprite0Hit = true ↔ s.ppu.sprite0Hit = true ∨
      ((backgroundBits p x).1 ≠ 0 ∧ x ≠ 255 ∧ ∃ u, IsSprite p x (some u) ∧ u.isSprite0 = true))) ∧
  (∀ s : State, ¬ (s.ppu.scanline < 240 ∧ 1 ≤ s.ppu.dot ∧ s.ppu.dot ≤ 256) →
    (ppuTick s).ppu.frame = s.ppu.frame ∧
    (¬ (s.ppu.scanline = 261 ∧ s.ppu.dot = 1) → (ppuTick s).ppu.sprite0Hit = s.ppu.sprite0Hit))

/-- Rules R404, R406-R411; the value of the attribute fetch is in ScrollAndAttribute. -/
def Obligations.BackgroundPipeline : Prop :=
  ∀ s : State,
    let p := s.ppu
    let q := (ppuTick s).ppu
    let shift := renders s ∧ ((2 ≤ p.dot ∧ p.dot ≤ 257) ∨ (322 ≤ p.dot ∧ p.dot ≤ 337))
    let reload := renders s ∧ ((9 ≤ p.dot ∧ p.dot ≤ 257 ∧ p.dot % 8 = 1) ∨ p.dot = 329 ∨ p.dot = 337)
    let fetch := renders s ∧ ((1 ≤ p.dot ∧ p.dot ≤ 256) ∨ (321 ≤ p.dot ∧ p.dot ≤ 336))
    let tile := (p.ctrl.getLsbD 4).toNat * 0x1000 + p.ntLatch.toNat * 16 + p.v.toNat / 0x1000
    (shift → q.atLo = p.atLo <<< 1 ||| p.atLatchLo.setWidth 8 ∧ q.atHi = p.atHi <<< 1 ||| p.atLatchHi.setWidth 8) ∧
    (shift → reload → q.bgLo = (p.bgLo <<< 1 &&& 0xFF00) ||| p.ptLoLatch.setWidth 16 ∧
      q.bgHi = (p.bgHi <<< 1 &&& 0xFF00) ||| p.ptHiLatch.setWidth 16) ∧
    (shift → ¬ reload → q.bgLo = p.bgLo <<< 1 ∧ q.bgHi = p.bgHi <<< 1) ∧
    (¬ shift → q.bgLo = p.bgLo ∧ q.bgHi = p.bgHi ∧ q.atLo = p.atLo ∧ q.atHi = p.atHi) ∧
    (reload → q.atLatchLo = BitVec.ofBool (p.atBits.getLsbD 0) ∧ q.atLatchHi = BitVec.ofBool (p.atBits.getLsbD 1)) ∧
    (¬ reload → q.atLatchLo = p.atLatchLo ∧ q.atLatchHi = p.atLatchHi) ∧
    (fetch ∧ p.dot % 8 = 1 → q.ntLatch = ppuRead s (0x2000 + p.v.toNat % 0x1000)) ∧
    (¬ (fetch ∧ p.dot % 8 = 1) → q.ntLatch = p.ntLatch) ∧
    (¬ (fetch ∧ p.dot % 8 = 3) → q.atBits = p.atBits) ∧
    (fetch ∧ p.dot % 8 = 5 → q.ptLoLatch = ppuRead s tile) ∧ (¬ (fetch ∧ p.dot % 8 = 5) → q.ptLoLatch = p.ptLoLatch) ∧
    (fetch ∧ p.dot % 8 = 7 → q.ptHiLatch = ppuRead s (tile + 8)) ∧
    (¬ (fetch ∧ p.dot % 8 = 7) → q.ptHiLatch = p.ptHiLatch)

/-- Rules R409, R412-R415. -/
def Obligations.ScrollAndAttribute : Prop :=
  ∀ s : State,
    let p := s.ppu
    let q := (ppuTick s).ppu
    let fetch := (1 ≤ p.dot ∧ p.dot ≤ 256) ∨ (321 ≤ p.dot ∧ p.dot ≤ 336)
    let coarse : BitVec 15 → BitVec 15 := fun v =>
      if v &&& 0x001F = 31 then (v &&& 0x7FE0) ^^^ 0x0400 else v + 1
    let vertical : BitVec 15 → BitVec 15 := fun v =>
      if v.toNat / 0x1000 < 7 then v + 0x1000
      else if v.toNat / 32 % 32 = 29 then (v &&& 0x0C1F) ^^^ 0x0800
      else if v.toNat / 32 % 32 = 31 then v &&& 0x0C1F
      else (v &&& 0x0FFF) + 0x20
    (renders s → fetch → p.dot % 8 = 0 → p.dot ≠ 256 → q.v = coarse p.v) ∧
    (renders s → p.dot = 256 → q.v = vertical (coarse p.v)) ∧
    (renders s → p.dot = 257 → q.v = (p.v &&& 0x7BE0) ||| (p.t &&& 0x041F)) ∧
    (renders s → p.scanline = 261 → p.dot = 280 → q.v = (p.v &&& 0x041F) ||| (p.t &&& 0x7BE0)) ∧
    (¬ renders s ∨ (¬ (fetch ∧ p.dot % 8 = 0) ∧ p.dot ≠ 257 ∧ ¬ (p.scanline = 261 ∧ p.dot = 280)) → q.v = p.v) ∧
    (q.t = p.t ∧ q.x = p.x ∧ q.w = p.w) ∧
    (renders s → fetch → p.dot % 8 = 3 → q.atBits = (ppuRead s (0x23C0 + p.v.toNat / 0x400 % 4 * 0x400 +
      p.v.toNat / 0x80 % 8 * 8 + p.v.toNat / 4 % 8) >>>
        (p.v.toNat / 0x40 % 2 * 4 + p.v.toNat / 2 % 2 * 2)).setWidth 2)

/-- Rules R426, R435, R436. That a frame entry is the pair of index and emphasis is the model's choice (log entry 5),
and so is the counter of ticks (log entry 8). -/
def Obligations.DisabledRendering : Prop :=
  ∀ s : State, s.ppu.mask.getLsbD 3 = false → s.ppu.mask.getLsbD 4 = false →
    let p := s.ppu
    let q := (ppuTick s).ppu
    let colour : BitVec 6 := (p.palette.read 0).setWidth 6
    (p.scanline < 240 → 1 ≤ p.dot → p.dot ≤ 256 →
      frameGet q.frame p.scanline (p.dot - 1) = some
        { index := if p.mask.getLsbD 0 then colour &&& 0x30 else colour, emphasis := p.mask.extractLsb' 5 3 } ∧
      ∀ y x, ¬ (y = p.scanline ∧ x = p.dot - 1) → frameGet q.frame y x = frameGet p.frame y x) ∧
    (¬ (p.scanline < 240 ∧ 1 ≤ p.dot ∧ p.dot ≤ 256) → q.frame = p.frame) ∧
    q = { p with
      frame := q.frame, scanline := q.scanline, dot := q.dot, oddFrame := q.oddFrame, ticks := p.ticks + 1,
      vblank := q.vblank, sprite0Hit := q.sprite0Hit, spriteOverflow := q.spriteOverflow } ∧
    (¬ (p.scanline = 261 ∧ p.dot = 1) → q.spriteOverflow = p.spriteOverflow ∧ q.sprite0Hit = p.sprite0Hit)

/-- Rules R12, R39, R52, R54, R55, R61, R64, R463: the invariant, over any step from any state that has it. -/
def Obligations.StepKeepsInvariant : Prop :=
  ∀ s t : State, Inv s → step s = .next t → Inv t

/-- Rules R530-R533. -/
def Obligations.ResetSatisfiesInvariant : Prop :=
  Inv State.reset

/-- Rules R44, R126, R150, R463, R533. The number of ticks, and its 21 at reset, are the model's own counter (log
entry 8). -/
def Obligations.ClockRatio : Prop :=
  (∀ s t : State, s.ppu.ticks = 3 * s.cpu.cycles → step s = .next t → t.ppu.ticks = 3 * t.cpu.cycles) ∧
  (∀ s t : State, step s = .next t → s.cpu.cycles < t.cpu.cycles) ∧
  State.reset.ppu.ticks = 3 * State.reset.cpu.cycles

/-- Rules R60, R64, R461. -/
def Obligations.StepKeepsConfiguration : Prop :=
  ∀ s t : State, step s = .next t → t.cart = s.cart ∧ t.params = s.params ∧ s.fault = none ∧ t.fault = none

/-- Rules R461, R470, R471, R530-R534. The model's choices in it: the empty cartridge of State.reset (log entry 3),
unlisted bytes read 0x00 (4), the form of a frame entry (5), the host's answers as lists (6, 9), the fields host and
ticks (8); the order of the checks is DEDUCED (15). -/
def Obligations.LoadAndPowerOn : Prop :=
  (∀ h : HostInputs,
    let mapperOk := h.record.mapper = 0
    let prgOk := h.record.prg.length = 16384 ∨ h.record.prg.length = 32768
    let chrOk := h.record.chr.length = 8192
    (load h = .error (.romFormat .mapper) ↔ ¬ mapperOk) ∧
    (load h = .error (.romFormat .prg) ↔ mapperOk ∧ ¬ prgOk) ∧
    (load h = .error (.romFormat .chr) ↔ mapperOk ∧ prgOk ∧ ¬ chrOk) ∧
    (h.record.wellFormed = true ↔ mapperOk ∧ prgOk ∧ chrOk) ∧
    (mapperOk → prgOk → chrOk → ∃ s, load h = .ok s ∧ MemoriesWf s ∧
      s.cpu =
        { a := 0x00, x := 0x00, y := 0x00, sp := 0xFD,
          pc := (match h.resetPc with
            | .fixed a => a
            | .vector => wordOf (prgRead s.cart 0xFFFD) (prgRead s.cart 0xFFFC)),
          c := false, z := false, i := true, d := false, b := false, v := false, n := false, cycles := 7 } ∧
      s.ppu = powerOnPpu s.ppu.oam s.ppu.palette s.ppu.nametable s.ppu.frame ∧
      (∀ y x, frameGet s.ppu.frame y x =
        if y = 0 ∧ x < 20 then some { index := (s.ppu.palette.read 0).setWidth 6, emphasis := 0 } else none) ∧
      (h.ram = .zero →
        s.wram = [] ∧ s.sram = [] ∧ s.ppu.oam = [] ∧ s.ppu.palette = [] ∧ s.ppu.nametable = []) ∧
      (∀ image, h.ram = .draw image →
        (∀ k, k < 2048 → s.wram.read k = drawnByte image.wram k) ∧
        (∀ k, k < 8192 → s.sram.read k = drawnByte image.sram k) ∧
        (∀ k, k < 256 → s.ppu.oam.read k = drawnByte image.oam k) ∧
        (∀ k, k < 32 → s.ppu.palette.read k = drawnByte image.palette k) ∧
        (∀ k, k < 4096 → s.ppu.nametable.read k = drawnByte image.nametable k)) ∧
      s.nmiPending = false ∧ s.fault = none ∧ s.params = h.params ∧ s.cart.mirroring = h.record.mirroring ∧
      s.host =
        { controllerAnswers := h.controllerAnswers, controllerReads := 0, strobes := [],
          irqLevels := h.irqLevels, framesDone := 0, presented := [] } ∧
      (∀ a : Word, 0x8000 ≤ a.toNat →
        some (prgRead s.cart a.toNat) = h.record.prg[(a.toNat - 0x8000) % h.record.prg.length]?) ∧
      (∀ a, a < 8192 → some (s.cart.chr.read a) = h.record.chr[a]?))) ∧
  State.reset.cpu =
    { a := 0x00, x := 0x00, y := 0x00, sp := 0xFD, pc := 0x0000,
      c := false, z := false, i := true, d := false, b := false, v := false, n := false, cycles := 7 } ∧
  State.reset.ppu = powerOnPpu [] [] [] State.reset.ppu.frame ∧
  (∀ y x, frameGet State.reset.ppu.frame y x =
    if y = 0 ∧ x < 20 then some { index := 0, emphasis := 0 } else none) ∧
  State.reset.wram = [] ∧ State.reset.sram = [] ∧ State.reset.nmiPending = false ∧ State.reset.fault = none

/-- Rules R37, R38. -/
def Obligations.PackedStatus : Prop :=
  ∀ (s : State) (p : Byte),
    (packP s.cpu).toNat = 128 * s.cpu.n.toNat + 64 * s.cpu.v.toNat + 32 + 16 * s.cpu.b.toNat + 8 * s.cpu.d.toNat +
      4 * s.cpu.i.toNat + 2 * s.cpu.z.toNat + s.cpu.c.toNat ∧
    unpackP s p = { s with cpu := withStatus p s.cpu } ∧
    unpackP s (packP s.cpu) = { s with cpu := { s.cpu with b := false } }
end

