-- ==== Sys2Proof/Laws/Memory.lean ====
section
/-! SUPPORT. Laws/Memory.lean: reading after writing one store, and the canonical form kept by every operation on a
store or on the frame. -/

namespace Sys2Proof.Machine

/-- `wfFrom` of a listed entry, as propositions. -/
theorem Memory.wfFrom_cons_iff (size lo k : Nat) (b : Byte) (m : Memory) :
    Memory.wfFrom size lo ((k, b) :: m) = true ↔
      lo ≤ k ∧ k < size ∧ b ≠ Memory.unlisted ∧ Memory.wfFrom size (k + 1) m = true := by
  simp [Memory.wfFrom, and_assoc]

/-- A lower starting point is no more to ask. -/
theorem Memory.wfFrom_mono {size lo lo' : Nat} {m : Memory} (h : lo' ≤ lo)
    (hm : Memory.wfFrom size lo m = true) : Memory.wfFrom size lo' m = true := by
  cases m with
  | nil => rfl
  | cons c m =>
    obtain ⟨k, b⟩ := c
    rw [Memory.wfFrom_cons_iff] at hm ⊢
    exact ⟨by omega, hm.2⟩

/-- Nothing is listed below where a canonical store starts. -/
theorem Memory.read_below {size lo k : Nat} {m : Memory} (hm : Memory.wfFrom size lo m = true) (hk : k < lo) :
    m.read k = Memory.unlisted := by
  induction m generalizing lo with
  | nil => rfl
  | cons c m ih =>
    obtain ⟨k', b⟩ := c
    rw [Memory.wfFrom_cons_iff] at hm
    rw [Memory.read, if_neg (by omega)]
    exact ih hm.2.2.2 (by omega)

/-- Nothing is listed at or above the store's size. -/
theorem Memory.read_above {size lo k : Nat} {m : Memory} (hm : Memory.wfFrom size lo m = true) (hk : size ≤ k) :
    m.read k = Memory.unlisted := by
  induction m generalizing lo with
  | nil => rfl
  | cons c m ih =>
    obtain ⟨k', b⟩ := c
    rw [Memory.wfFrom_cons_iff] at hm
    rw [Memory.read, if_neg (by omega)]
    exact ih hm.2.2.2

/-- Reading what `cons` put before a canonical store. -/
theorem Memory.read_cons {size k j : Nat} {b : Byte} {m : Memory} (hm : Memory.wfFrom size (k + 1) m = true) :
    (Memory.cons k b m).read j = if k = j then b else m.read j := by
  unfold Memory.cons
  split_ifs with hb hj hj
  · subst hj hb; exact Memory.read_below hm (by omega)
  · rfl
  · simp [Memory.read, hj]
  · simp [Memory.read, hj]

/-- `cons` keeps the canonical form. -/
theorem Memory.wfFrom_cons {size lo k : Nat} {b : Byte} {m : Memory} (hlo : lo ≤ k) (hk : k < size)
    (hm : Memory.wfFrom size (k + 1) m = true) : Memory.wfFrom size lo (Memory.cons k b m) = true := by
  unfold Memory.cons
  split_ifs with hb
  · exact Memory.wfFrom_mono (by omega) hm
  · exact (Memory.wfFrom_cons_iff _ _ _ _ _).2 ⟨hlo, hk, hb, hm⟩

/-- A write keeps the canonical form, from any starting point the offset reaches. -/
theorem Memory.wfFrom_write {size lo k : Nat} {b : Byte} {m : Memory} (hlo : lo ≤ k) (hk : k < size)
    (hm : Memory.wfFrom size lo m = true) : Memory.wfFrom size lo (m.write k b) = true := by
  induction m generalizing lo with
  | nil => exact Memory.wfFrom_cons hlo hk rfl
  | cons c m ih =>
    obtain ⟨k', b'⟩ := c
    have h := (Memory.wfFrom_cons_iff _ _ _ _ _).1 hm
    unfold Memory.write
    split_ifs with h1 h2
    · exact Memory.wfFrom_cons hlo hk
        ((Memory.wfFrom_cons_iff _ _ _ _ _).2 ⟨by omega, h.2.1, h.2.2.1, h.2.2.2⟩)
    · subst h2; exact Memory.wfFrom_cons hlo hk h.2.2.2
    · exact (Memory.wfFrom_cons_iff _ _ _ _ _).2 ⟨h.1, h.2.1, h.2.2.1, ih (by omega) h.2.2.2⟩

/-- A write keeps the canonical form. -/
theorem Memory.wf_write {size k : Nat} {b : Byte} {m : Memory} (hk : k < size) (hm : m.wf size = true) :
    (m.write k b).wf size = true :=
  Memory.wfFrom_write (Nat.zero_le _) hk hm

/-- Reading a canonical store after a write. -/
theorem Memory.read_write_from {size lo k j : Nat} {b : Byte} {m : Memory} (hm : Memory.wfFrom size lo m = true) :
    (m.write k b).read j = if k = j then b else m.read j := by
  induction m generalizing lo with
  | nil =>
    rw [Memory.write, Memory.read_cons (size := size) rfl]
  | cons c m ih =>
    obtain ⟨k', b'⟩ := c
    have h := (Memory.wfFrom_cons_iff _ _ _ _ _).1 hm
    unfold Memory.write
    by_cases h1 : k < k'
    · rw [if_pos h1, Memory.read_cons (size := size)]
      exact (Memory.wfFrom_cons_iff _ _ _ _ _).2 ⟨by omega, h.2⟩
    · rw [if_neg h1]
      by_cases h2 : k = k'
      · subst h2
        rw [if_pos rfl, Memory.read_cons h.2.2.2]
        by_cases h3 : k = j
        · rw [if_pos h3, if_pos h3]
        · rw [if_neg h3, if_neg h3, Memory.read, if_neg h3]
      · rw [if_neg h2, Memory.read, Memory.read, ih h.2.2.2]
        by_cases h3 : k' = j
        · rw [if_pos h3, if_neg (by omega), if_pos h3]
        · rw [if_neg h3, if_neg h3]

/-- Reading a canonical store after a write. -/
theorem Memory.read_write {size k j : Nat} {b : Byte} {m : Memory} (hm : m.wf size = true) :
    (m.write k b).read j = if k = j then b else m.read j :=
  Memory.read_write_from hm

/-- The byte written is the byte read. -/
theorem Memory.read_write_same {size k : Nat} {b : Byte} {m : Memory} (hm : m.wf size = true) :
    (m.write k b).read k = b := by
  rw [Memory.read_write hm, if_pos rfl]

/-- A write leaves every other offset alone. -/
theorem Memory.read_write_other {size k j : Nat} {b : Byte} {m : Memory} (hm : m.wf size = true) (h : k ≠ j) :
    (m.write k b).read j = m.read j := by
  rw [Memory.read_write hm, if_neg h]

/-- Two canonical stores that read the same everywhere are the same list. -/
theorem Memory.ext_from {size lo : Nat} {m m' : Memory} (hm : Memory.wfFrom size lo m = true)
    (hm' : Memory.wfFrom size lo m' = true) (h : ∀ k, m.read k = m'.read k) : m = m' := by
  induction m generalizing lo m' with
  | nil =>
    cases m' with
    | nil => rfl
    | cons c' m' =>
      obtain ⟨k', b'⟩ := c'
      have h2 := (Memory.wfFrom_cons_iff _ _ _ _ _).1 hm'
      have h3 := h k'
      simp [Memory.read] at h3
      exact absurd h3.symm h2.2.2.1
  | cons c m ih =>
    obtain ⟨k, b⟩ := c
    have h1 := (Memory.wfFrom_cons_iff _ _ _ _ _).1 hm
    cases m' with
    | nil =>
      have h3 := h k
      simp [Memory.read] at h3
      exact absurd h3 h1.2.2.1
    | cons c' m' =>
      obtain ⟨k', b'⟩ := c'
      have h2 := (Memory.wfFrom_cons_iff _ _ _ _ _).1 hm'
      have below : ∀ {n n' : Nat} {c c' : Byte} {l l' : Memory}, n < n' → c ≠ Memory.unlisted →
          Memory.wfFrom size (n' + 1) l' = true →
          (∀ j, Memory.read ((n, c) :: l) j = Memory.read ((n', c') :: l') j) → False := by
        intro n n' c c' l l' hlt hc hl hj
        have h5 := hj n
        rw [Memory.read, if_pos rfl, Memory.read, if_neg (by omega), Memory.read_below hl (by omega)] at h5
        exact hc h5
      have hk : k = k' := by
        rcases Nat.lt_trichotomy k k' with h4 | h4 | h4
        · exact (below h4 h1.2.2.1 h2.2.2.2 h).elim
        · exact h4
        · exact (below h4 h2.2.2.1 h1.2.2.2 fun j => (h j).symm).elim
      subst hk
      have hb : b = b' := by have h5 := h k; simpa [Memory.read] using h5
      subst hb
      congr 1
      refine ih h1.2.2.2 h2.2.2.2 fun j => ?_
      by_cases hj : j < k + 1
      · rw [Memory.read_below h1.2.2.2 hj, Memory.read_below h2.2.2.2 hj]
      · have h5 := h j
        rwa [Memory.read, if_neg (by omega), Memory.read, if_neg (by omega)] at h5

/-- A loaded image is canonical. -/
theorem Memory.wfFrom_ofBytes {size k : Nat} (bs : List Byte) (h : k + bs.length ≤ size) :
    Memory.wfFrom size k (Memory.ofBytes k bs) = true := by
  induction bs generalizing k with
  | nil => rfl
  | cons b bs ih =>
    rw [List.length_cons] at h
    exact Memory.wfFrom_cons (Nat.le_refl k) (by omega) (ih (by omega))

/-- A loaded image reads as its bytes. -/
theorem Memory.read_ofBytes {k j : Nat} (bs : List Byte) (h : k ≤ j) :
    (Memory.ofBytes k bs).read j = bs.getD (j - k) Memory.unlisted := by
  induction bs generalizing k with
  | nil => rfl
  | cons b bs ih =>
    rw [Memory.ofBytes, Memory.read_cons (size := k + 1 + bs.length) (Memory.wfFrom_ofBytes bs (Nat.le_refl _))]
    by_cases hj : k = j
    · subst hj; simp
    · obtain ⟨d, hd⟩ : ∃ d, j - k = d + 1 := ⟨j - k - 1, by omega⟩
      rw [if_neg hj, ih (by omega), hd, List.getD_cons_succ]
      congr 1
      omega

/-- A drawn image gives a canonical store. -/
theorem Memory.wf_ofCells (size : Nat) (cells : List Host.Cell) : (Memory.ofCells size cells).wf size = true := by
  suffices h : ∀ m : Memory, m.wf size = true →
      (cells.foldl (fun m c => if c.1 < size then m.write c.1 c.2 else m) m).wf size = true from h [] rfl
  induction cells with
  | nil => exact fun m hm => hm
  | cons c cs ih =>
    intro m hm
    rw [List.foldl_cons]
    refine ih _ ?_
    split_ifs with hc
    · exact Memory.wf_write hc hm
    · exact hm

/-- Reading an entry after setting one. -/
theorem fallingGet_set {α : Type} (m : List (Nat × α)) (k j : Nat) (a : α) :
    fallingGet (fallingSet m k a) j = if k = j then some a else fallingGet m j := by
  induction m with
  | nil => by_cases h : k = j <;> simp [fallingSet, fallingGet, h]
  | cons c m ih =>
    obtain ⟨k', a'⟩ := c
    unfold fallingSet
    by_cases h1 : k' < k
    · simp [h1, fallingGet]
    · by_cases h2 : k' = k
      · subst h2
        by_cases h3 : k' = j <;> simp [fallingGet, h3]
      · by_cases h3 : k' = j
        · subst h3
          simp [h1, h2, fallingGet, Ne.symm h2]
        · simp [h1, h2, h3, fallingGet, ih]

/-- Reading the frame after writing one entry. -/
theorem frameGet_set (f : Frame) (y x y' x' : Nat) (p : Pixel) :
    frameGet (frameSet f y x p) y' x' = if y = y' ∧ x = x' then some p else frameGet f y' x' := by
  unfold frameGet frameSet
  rw [fallingGet_set]
  by_cases hy : y = y'
  · subst hy
    simp only [if_true, true_and, Option.bind_some, fallingGet_set]
    by_cases hx : x = x'
    · simp [hx]
    · cases h : fallingGet f y <;> simp [hx, fallingGet]
  · simp [hy]

end Sys2Proof.Machine
end

