-- ==== Sys2Proof/Laws/Boot.lean ====
section
/-! SUPPORT. Laws/Boot.lean: the reset state is what power-on computes, and a load accepts the well-formed records. -/

namespace Sys2Proof.Machine

/-- `State.reset` is power-on (rule R530) with no cartridge bytes, the default parameters, the vector mode, zeroed
memories and a silent host. -/
theorem reset_eq_powerOn : State.reset = powerOn State.reset.cart defaultParams .vector .zero silentHost := by
  decide +kernel

/-- A program-ROM length is accepted exactly when it is one of the two (rule R470). -/
theorem prgSizeOf_isSome (n : Nat) : (prgSizeOf n).isSome = (n == 16384 || n == 32768) := by
  unfold prgSizeOf
  split_ifs with h1 h2
  · simp [h1]
  · simp [h2]
  · simp [h1, h2]

/-- A load yields a state exactly for the well-formed records (rule R470). -/
theorem load_isOk (h : HostInputs) : (load h).isOk = h.record.wellFormed := by
  unfold load CartridgeRecord.wellFormed CartridgeRecord.mapperOk CartridgeRecord.prgOk CartridgeRecord.chrOk
  rw [← prgSizeOf_isSome]
  by_cases h1 : h.record.mapper = 0 <;> by_cases h2 : h.record.chr.length = 8192 <;>
    cases hp : prgSizeOf h.record.prg.length <;> simp [h1, h2, Except.isOk, Except.toBool]

end Sys2Proof.Machine
end

