-- ==== Sys2Proof/Laws/State.lean ====
section
/-! SUPPORT. Laws/State.lean: what each named update of State does to each field, so that no proof unfolds a record
update. -/

namespace Sys2Proof.Machine

@[simp] theorem State.setA_a (s : State) (v : Byte) : (s.setA v).cpu.a = v := rfl
@[simp] theorem State.setA_x (s : State) (v : Byte) : (s.setA v).cpu.x = s.cpu.x := rfl
@[simp] theorem State.setA_y (s : State) (v : Byte) : (s.setA v).cpu.y = s.cpu.y := rfl
@[simp] theorem State.setA_sp (s : State) (v : Byte) : (s.setA v).cpu.sp = s.cpu.sp := rfl
@[simp] theorem State.setA_pc (s : State) (v : Byte) : (s.setA v).cpu.pc = s.cpu.pc := rfl
@[simp] theorem State.setA_c (s : State) (v : Byte) : (s.setA v).cpu.c = s.cpu.c := rfl
@[simp] theorem State.setA_z (s : State) (v : Byte) : (s.setA v).cpu.z = s.cpu.z := rfl
@[simp] theorem State.setA_i (s : State) (v : Byte) : (s.setA v).cpu.i = s.cpu.i := rfl
@[simp] theorem State.setA_d (s : State) (v : Byte) : (s.setA v).cpu.d = s.cpu.d := rfl
@[simp] theorem State.setA_b (s : State) (v : Byte) : (s.setA v).cpu.b = s.cpu.b := rfl
@[simp] theorem State.setA_v (s : State) (v : Byte) : (s.setA v).cpu.v = s.cpu.v := rfl
@[simp] theorem State.setA_n (s : State) (v : Byte) : (s.setA v).cpu.n = s.cpu.n := rfl
@[simp] theorem State.setA_cycles (s : State) (v : Byte) : (s.setA v).cpu.cycles = s.cpu.cycles := rfl
@[simp] theorem State.setA_ppu (s : State) (v : Byte) : (s.setA v).ppu = s.ppu := rfl
@[simp] theorem State.setA_wram (s : State) (v : Byte) : (s.setA v).wram = s.wram := rfl
@[simp] theorem State.setA_sram (s : State) (v : Byte) : (s.setA v).sram = s.sram := rfl
@[simp] theorem State.setA_nmiPending (s : State) (v : Byte) : (s.setA v).nmiPending = s.nmiPending := rfl
@[simp] theorem State.setA_fault (s : State) (v : Byte) : (s.setA v).fault = s.fault := rfl
@[simp] theorem State.setA_cart (s : State) (v : Byte) : (s.setA v).cart = s.cart := rfl
@[simp] theorem State.setA_params (s : State) (v : Byte) : (s.setA v).params = s.params := rfl
@[simp] theorem State.setA_host (s : State) (v : Byte) : (s.setA v).host = s.host := rfl

@[simp] theorem State.setX_a (s : State) (v : Byte) : (s.setX v).cpu.a = s.cpu.a := rfl
@[simp] theorem State.setX_x (s : State) (v : Byte) : (s.setX v).cpu.x = v := rfl
@[simp] theorem State.setX_y (s : State) (v : Byte) : (s.setX v).cpu.y = s.cpu.y := rfl
@[simp] theorem State.setX_sp (s : State) (v : Byte) : (s.setX v).cpu.sp = s.cpu.sp := rfl
@[simp] theorem State.setX_pc (s : State) (v : Byte) : (s.setX v).cpu.pc = s.cpu.pc := rfl
@[simp] theorem State.setX_c (s : State) (v : Byte) : (s.setX v).cpu.c = s.cpu.c := rfl
@[simp] theorem State.setX_z (s : State) (v : Byte) : (s.setX v).cpu.z = s.cpu.z := rfl
@[simp] theorem State.setX_i (s : State) (v : Byte) : (s.setX v).cpu.i = s.cpu.i := rfl
@[simp] theorem State.setX_d (s : State) (v : Byte) : (s.setX v).cpu.d = s.cpu.d := rfl
@[simp] theorem State.setX_b (s : State) (v : Byte) : (s.setX v).cpu.b = s.cpu.b := rfl
@[simp] theorem State.setX_v (s : State) (v : Byte) : (s.setX v).cpu.v = s.cpu.v := rfl
@[simp] theorem State.setX_n (s : State) (v : Byte) : (s.setX v).cpu.n = s.cpu.n := rfl
@[simp] theorem State.setX_cycles (s : State) (v : Byte) : (s.setX v).cpu.cycles = s.cpu.cycles := rfl
@[simp] theorem State.setX_ppu (s : State) (v : Byte) : (s.setX v).ppu = s.ppu := rfl
@[simp] theorem State.setX_wram (s : State) (v : Byte) : (s.setX v).wram = s.wram := rfl
@[simp] theorem State.setX_sram (s : State) (v : Byte) : (s.setX v).sram = s.sram := rfl
@[simp] theorem State.setX_nmiPending (s : State) (v : Byte) : (s.setX v).nmiPending = s.nmiPending := rfl
@[simp] theorem State.setX_fault (s : State) (v : Byte) : (s.setX v).fault = s.fault := rfl
@[simp] theorem State.setX_cart (s : State) (v : Byte) : (s.setX v).cart = s.cart := rfl
@[simp] theorem State.setX_params (s : State) (v : Byte) : (s.setX v).params = s.params := rfl
@[simp] theorem State.setX_host (s : State) (v : Byte) : (s.setX v).host = s.host := rfl

@[simp] theorem State.setY_a (s : State) (v : Byte) : (s.setY v).cpu.a = s.cpu.a := rfl
@[simp] theorem State.setY_x (s : State) (v : Byte) : (s.setY v).cpu.x = s.cpu.x := rfl
@[simp] theorem State.setY_y (s : State) (v : Byte) : (s.setY v).cpu.y = v := rfl
@[simp] theorem State.setY_sp (s : State) (v : Byte) : (s.setY v).cpu.sp = s.cpu.sp := rfl
@[simp] theorem State.setY_pc (s : State) (v : Byte) : (s.setY v).cpu.pc = s.cpu.pc := rfl
@[simp] theorem State.setY_c (s : State) (v : Byte) : (s.setY v).cpu.c = s.cpu.c := rfl
@[simp] theorem State.setY_z (s : State) (v : Byte) : (s.setY v).cpu.z = s.cpu.z := rfl
@[simp] theorem State.setY_i (s : State) (v : Byte) : (s.setY v).cpu.i = s.cpu.i := rfl
@[simp] theorem State.setY_d (s : State) (v : Byte) : (s.setY v).cpu.d = s.cpu.d := rfl
@[simp] theorem State.setY_b (s : State) (v : Byte) : (s.setY v).cpu.b = s.cpu.b := rfl
@[simp] theorem State.setY_v (s : State) (v : Byte) : (s.setY v).cpu.v = s.cpu.v := rfl
@[simp] theorem State.setY_n (s : State) (v : Byte) : (s.setY v).cpu.n = s.cpu.n := rfl
@[simp] theorem State.setY_cycles (s : State) (v : Byte) : (s.setY v).cpu.cycles = s.cpu.cycles := rfl
@[simp] theorem State.setY_ppu (s : State) (v : Byte) : (s.setY v).ppu = s.ppu := rfl
@[simp] theorem State.setY_wram (s : State) (v : Byte) : (s.setY v).wram = s.wram := rfl
@[simp] theorem State.setY_sram (s : State) (v : Byte) : (s.setY v).sram = s.sram := rfl
@[simp] theorem State.setY_nmiPending (s : State) (v : Byte) : (s.setY v).nmiPending = s.nmiPending := rfl
@[simp] theorem State.setY_fault (s : State) (v : Byte) : (s.setY v).fault = s.fault := rfl
@[simp] theorem State.setY_cart (s : State) (v : Byte) : (s.setY v).cart = s.cart := rfl
@[simp] theorem State.setY_params (s : State) (v : Byte) : (s.setY v).params = s.params := rfl
@[simp] theorem State.setY_host (s : State) (v : Byte) : (s.setY v).host = s.host := rfl

@[simp] theorem State.setSp_a (s : State) (v : Byte) : (s.setSp v).cpu.a = s.cpu.a := rfl
@[simp] theorem State.setSp_x (s : State) (v : Byte) : (s.setSp v).cpu.x = s.cpu.x := rfl
@[simp] theorem State.setSp_y (s : State) (v : Byte) : (s.setSp v).cpu.y = s.cpu.y := rfl
@[simp] theorem State.setSp_sp (s : State) (v : Byte) : (s.setSp v).cpu.sp = v := rfl
@[simp] theorem State.setSp_pc (s : State) (v : Byte) : (s.setSp v).cpu.pc = s.cpu.pc := rfl
@[simp] theorem State.setSp_c (s : State) (v : Byte) : (s.setSp v).cpu.c = s.cpu.c := rfl
@[simp] theorem State.setSp_z (s : State) (v : Byte) : (s.setSp v).cpu.z = s.cpu.z := rfl
@[simp] theorem State.setSp_i (s : State) (v : Byte) : (s.setSp v).cpu.i = s.cpu.i := rfl
@[simp] theorem State.setSp_d (s : State) (v : Byte) : (s.setSp v).cpu.d = s.cpu.d := rfl
@[simp] theorem State.setSp_b (s : State) (v : Byte) : (s.setSp v).cpu.b = s.cpu.b := rfl
@[simp] theorem State.setSp_v (s : State) (v : Byte) : (s.setSp v).cpu.v = s.cpu.v := rfl
@[simp] theorem State.setSp_n (s : State) (v : Byte) : (s.setSp v).cpu.n = s.cpu.n := rfl
@[simp] theorem State.setSp_cycles (s : State) (v : Byte) : (s.setSp v).cpu.cycles = s.cpu.cycles := rfl
@[simp] theorem State.setSp_ppu (s : State) (v : Byte) : (s.setSp v).ppu = s.ppu := rfl
@[simp] theorem State.setSp_wram (s : State) (v : Byte) : (s.setSp v).wram = s.wram := rfl
@[simp] theorem State.setSp_sram (s : State) (v : Byte) : (s.setSp v).sram = s.sram := rfl
@[simp] theorem State.setSp_nmiPending (s : State) (v : Byte) : (s.setSp v).nmiPending = s.nmiPending := rfl
@[simp] theorem State.setSp_fault (s : State) (v : Byte) : (s.setSp v).fault = s.fault := rfl
@[simp] theorem State.setSp_cart (s : State) (v : Byte) : (s.setSp v).cart = s.cart := rfl
@[simp] theorem State.setSp_params (s : State) (v : Byte) : (s.setSp v).params = s.params := rfl
@[simp] theorem State.setSp_host (s : State) (v : Byte) : (s.setSp v).host = s.host := rfl

@[simp] theorem State.setPc_a (s : State) (v : Word) : (s.setPc v).cpu.a = s.cpu.a := rfl
@[simp] theorem State.setPc_x (s : State) (v : Word) : (s.setPc v).cpu.x = s.cpu.x := rfl
@[simp] theorem State.setPc_y (s : State) (v : Word) : (s.setPc v).cpu.y = s.cpu.y := rfl
@[simp] theorem State.setPc_sp (s : State) (v : Word) : (s.setPc v).cpu.sp = s.cpu.sp := rfl
@[simp] theorem State.setPc_pc (s : State) (v : Word) : (s.setPc v).cpu.pc = v := rfl
@[simp] theorem State.setPc_c (s : State) (v : Word) : (s.setPc v).cpu.c = s.cpu.c := rfl
@[simp] theorem State.setPc_z (s : State) (v : Word) : (s.setPc v).cpu.z = s.cpu.z := rfl
@[simp] theorem State.setPc_i (s : State) (v : Word) : (s.setPc v).cpu.i = s.cpu.i := rfl
@[simp] theorem State.setPc_d (s : State) (v : Word) : (s.setPc v).cpu.d = s.cpu.d := rfl
@[simp] theorem State.setPc_b (s : State) (v : Word) : (s.setPc v).cpu.b = s.cpu.b := rfl
@[simp] theorem State.setPc_v (s : State) (v : Word) : (s.setPc v).cpu.v = s.cpu.v := rfl
@[simp] theorem State.setPc_n (s : State) (v : Word) : (s.setPc v).cpu.n = s.cpu.n := rfl
@[simp] theorem State.setPc_cycles (s : State) (v : Word) : (s.setPc v).cpu.cycles = s.cpu.cycles := rfl
@[simp] theorem State.setPc_ppu (s : State) (v : Word) : (s.setPc v).ppu = s.ppu := rfl
@[simp] theorem State.setPc_wram (s : State) (v : Word) : (s.setPc v).wram = s.wram := rfl
@[simp] theorem State.setPc_sram (s : State) (v : Word) : (s.setPc v).sram = s.sram := rfl
@[simp] theorem State.setPc_nmiPending (s : State) (v : Word) : (s.setPc v).nmiPending = s.nmiPending := rfl
@[simp] theorem State.setPc_fault (s : State) (v : Word) : (s.setPc v).fault = s.fault := rfl
@[simp] theorem State.setPc_cart (s : State) (v : Word) : (s.setPc v).cart = s.cart := rfl
@[simp] theorem State.setPc_params (s : State) (v : Word) : (s.setPc v).params = s.params := rfl
@[simp] theorem State.setPc_host (s : State) (v : Word) : (s.setPc v).host = s.host := rfl

@[simp] theorem State.setC_a (s : State) (f : Bool) : (s.setC f).cpu.a = s.cpu.a := rfl
@[simp] theorem State.setC_x (s : State) (f : Bool) : (s.setC f).cpu.x = s.cpu.x := rfl
@[simp] theorem State.setC_y (s : State) (f : Bool) : (s.setC f).cpu.y = s.cpu.y := rfl
@[simp] theorem State.setC_sp (s : State) (f : Bool) : (s.setC f).cpu.sp = s.cpu.sp := rfl
@[simp] theorem State.setC_pc (s : State) (f : Bool) : (s.setC f).cpu.pc = s.cpu.pc := rfl
@[simp] theorem State.setC_c (s : State) (f : Bool) : (s.setC f).cpu.c = f := rfl
@[simp] theorem State.setC_z (s : State) (f : Bool) : (s.setC f).cpu.z = s.cpu.z := rfl
@[simp] theorem State.setC_i (s : State) (f : Bool) : (s.setC f).cpu.i = s.cpu.i := rfl
@[simp] theorem State.setC_d (s : State) (f : Bool) : (s.setC f).cpu.d = s.cpu.d := rfl
@[simp] theorem State.setC_b (s : State) (f : Bool) : (s.setC f).cpu.b = s.cpu.b := rfl
@[simp] theorem State.setC_v (s : State) (f : Bool) : (s.setC f).cpu.v = s.cpu.v := rfl
@[simp] theorem State.setC_n (s : State) (f : Bool) : (s.setC f).cpu.n = s.cpu.n := rfl
@[simp] theorem State.setC_cycles (s : State) (f : Bool) : (s.setC f).cpu.cycles = s.cpu.cycles := rfl
@[simp] theorem State.setC_ppu (s : State) (f : Bool) : (s.setC f).ppu = s.ppu := rfl
@[simp] theorem State.setC_wram (s : State) (f : Bool) : (s.setC f).wram = s.wram := rfl
@[simp] theorem State.setC_sram (s : State) (f : Bool) : (s.setC f).sram = s.sram := rfl
@[simp] theorem State.setC_nmiPending (s : State) (f : Bool) : (s.setC f).nmiPending = s.nmiPending := rfl
@[simp] theorem State.setC_fault (s : State) (f : Bool) : (s.setC f).fault = s.fault := rfl
@[simp] theorem State.setC_cart (s : State) (f : Bool) : (s.setC f).cart = s.cart := rfl
@[simp] theorem State.setC_params (s : State) (f : Bool) : (s.setC f).params = s.params := rfl
@[simp] theorem State.setC_host (s : State) (f : Bool) : (s.setC f).host = s.host := rfl

@[simp] theorem State.setZ_a (s : State) (f : Bool) : (s.setZ f).cpu.a = s.cpu.a := rfl
@[simp] theorem State.setZ_x (s : State) (f : Bool) : (s.setZ f).cpu.x = s.cpu.x := rfl
@[simp] theorem State.setZ_y (s : State) (f : Bool) : (s.setZ f).cpu.y = s.cpu.y := rfl
@[simp] theorem State.setZ_sp (s : State) (f : Bool) : (s.setZ f).cpu.sp = s.cpu.sp := rfl
@[simp] theorem State.setZ_pc (s : State) (f : Bool) : (s.setZ f).cpu.pc = s.cpu.pc := rfl
@[simp] theorem State.setZ_c (s : State) (f : Bool) : (s.setZ f).cpu.c = s.cpu.c := rfl
@[simp] theorem State.setZ_z (s : State) (f : Bool) : (s.setZ f).cpu.z = f := rfl
@[simp] theorem State.setZ_i (s : State) (f : Bool) : (s.setZ f).cpu.i = s.cpu.i := rfl
@[simp] theorem State.setZ_d (s : State) (f : Bool) : (s.setZ f).cpu.d = s.cpu.d := rfl
@[simp] theorem State.setZ_b (s : State) (f : Bool) : (s.setZ f).cpu.b = s.cpu.b := rfl
@[simp] theorem State.setZ_v (s : State) (f : Bool) : (s.setZ f).cpu.v = s.cpu.v := rfl
@[simp] theorem State.setZ_n (s : State) (f : Bool) : (s.setZ f).cpu.n = s.cpu.n := rfl
@[simp] theorem State.setZ_cycles (s : State) (f : Bool) : (s.setZ f).cpu.cycles = s.cpu.cycles := rfl
@[simp] theorem State.setZ_ppu (s : State) (f : Bool) : (s.setZ f).ppu = s.ppu := rfl
@[simp] theorem State.setZ_wram (s : State) (f : Bool) : (s.setZ f).wram = s.wram := rfl
@[simp] theorem State.setZ_sram (s : State) (f : Bool) : (s.setZ f).sram = s.sram := rfl
@[simp] theorem State.setZ_nmiPending (s : State) (f : Bool) : (s.setZ f).nmiPending = s.nmiPending := rfl
@[simp] theorem State.setZ_fault (s : State) (f : Bool) : (s.setZ f).fault = s.fault := rfl
@[simp] theorem State.setZ_cart (s : State) (f : Bool) : (s.setZ f).cart = s.cart := rfl
@[simp] theorem State.setZ_params (s : State) (f : Bool) : (s.setZ f).params = s.params := rfl
@[simp] theorem State.setZ_host (s : State) (f : Bool) : (s.setZ f).host = s.host := rfl

@[simp] theorem State.setI_a (s : State) (f : Bool) : (s.setI f).cpu.a = s.cpu.a := rfl
@[simp] theorem State.setI_x (s : State) (f : Bool) : (s.setI f).cpu.x = s.cpu.x := rfl
@[simp] theorem State.setI_y (s : State) (f : Bool) : (s.setI f).cpu.y = s.cpu.y := rfl
@[simp] theorem State.setI_sp (s : State) (f : Bool) : (s.setI f).cpu.sp = s.cpu.sp := rfl
@[simp] theorem State.setI_pc (s : State) (f : Bool) : (s.setI f).cpu.pc = s.cpu.pc := rfl
@[simp] theorem State.setI_c (s : State) (f : Bool) : (s.setI f).cpu.c = s.cpu.c := rfl
@[simp] theorem State.setI_z (s : State) (f : Bool) : (s.setI f).cpu.z = s.cpu.z := rfl
@[simp] theorem State.setI_i (s : State) (f : Bool) : (s.setI f).cpu.i = f := rfl
@[simp] theorem State.setI_d (s : State) (f : Bool) : (s.setI f).cpu.d = s.cpu.d := rfl
@[simp] theorem State.setI_b (s : State) (f : Bool) : (s.setI f).cpu.b = s.cpu.b := rfl
@[simp] theorem State.setI_v (s : State) (f : Bool) : (s.setI f).cpu.v = s.cpu.v := rfl
@[simp] theorem State.setI_n (s : State) (f : Bool) : (s.setI f).cpu.n = s.cpu.n := rfl
@[simp] theorem State.setI_cycles (s : State) (f : Bool) : (s.setI f).cpu.cycles = s.cpu.cycles := rfl
@[simp] theorem State.setI_ppu (s : State) (f : Bool) : (s.setI f).ppu = s.ppu := rfl
@[simp] theorem State.setI_wram (s : State) (f : Bool) : (s.setI f).wram = s.wram := rfl
@[simp] theorem State.setI_sram (s : State) (f : Bool) : (s.setI f).sram = s.sram := rfl
@[simp] theorem State.setI_nmiPending (s : State) (f : Bool) : (s.setI f).nmiPending = s.nmiPending := rfl
@[simp] theorem State.setI_fault (s : State) (f : Bool) : (s.setI f).fault = s.fault := rfl
@[simp] theorem State.setI_cart (s : State) (f : Bool) : (s.setI f).cart = s.cart := rfl
@[simp] theorem State.setI_params (s : State) (f : Bool) : (s.setI f).params = s.params := rfl
@[simp] theorem State.setI_host (s : State) (f : Bool) : (s.setI f).host = s.host := rfl

@[simp] theorem State.setD_a (s : State) (f : Bool) : (s.setD f).cpu.a = s.cpu.a := rfl
@[simp] theorem State.setD_x (s : State) (f : Bool) : (s.setD f).cpu.x = s.cpu.x := rfl
@[simp] theorem State.setD_y (s : State) (f : Bool) : (s.setD f).cpu.y = s.cpu.y := rfl
@[simp] theorem State.setD_sp (s : State) (f : Bool) : (s.setD f).cpu.sp = s.cpu.sp := rfl
@[simp] theorem State.setD_pc (s : State) (f : Bool) : (s.setD f).cpu.pc = s.cpu.pc := rfl
@[simp] theorem State.setD_c (s : State) (f : Bool) : (s.setD f).cpu.c = s.cpu.c := rfl
@[simp] theorem State.setD_z (s : State) (f : Bool) : (s.setD f).cpu.z = s.cpu.z := rfl
@[simp] theorem State.setD_i (s : State) (f : Bool) : (s.setD f).cpu.i = s.cpu.i := rfl
@[simp] theorem State.setD_d (s : State) (f : Bool) : (s.setD f).cpu.d = f := rfl
@[simp] theorem State.setD_b (s : State) (f : Bool) : (s.setD f).cpu.b = s.cpu.b := rfl
@[simp] theorem State.setD_v (s : State) (f : Bool) : (s.setD f).cpu.v = s.cpu.v := rfl
@[simp] theorem State.setD_n (s : State) (f : Bool) : (s.setD f).cpu.n = s.cpu.n := rfl
@[simp] theorem State.setD_cycles (s : State) (f : Bool) : (s.setD f).cpu.cycles = s.cpu.cycles := rfl
@[simp] theorem State.setD_ppu (s : State) (f : Bool) : (s.setD f).ppu = s.ppu := rfl
@[simp] theorem State.setD_wram (s : State) (f : Bool) : (s.setD f).wram = s.wram := rfl
@[simp] theorem State.setD_sram (s : State) (f : Bool) : (s.setD f).sram = s.sram := rfl
@[simp] theorem State.setD_nmiPending (s : State) (f : Bool) : (s.setD f).nmiPending = s.nmiPending := rfl
@[simp] theorem State.setD_fault (s : State) (f : Bool) : (s.setD f).fault = s.fault := rfl
@[simp] theorem State.setD_cart (s : State) (f : Bool) : (s.setD f).cart = s.cart := rfl
@[simp] theorem State.setD_params (s : State) (f : Bool) : (s.setD f).params = s.params := rfl
@[simp] theorem State.setD_host (s : State) (f : Bool) : (s.setD f).host = s.host := rfl

@[simp] theorem State.setB_a (s : State) (f : Bool) : (s.setB f).cpu.a = s.cpu.a := rfl
@[simp] theorem State.setB_x (s : State) (f : Bool) : (s.setB f).cpu.x = s.cpu.x := rfl
@[simp] theorem State.setB_y (s : State) (f : Bool) : (s.setB f).cpu.y = s.cpu.y := rfl
@[simp] theorem State.setB_sp (s : State) (f : Bool) : (s.setB f).cpu.sp = s.cpu.sp := rfl
@[simp] theorem State.setB_pc (s : State) (f : Bool) : (s.setB f).cpu.pc = s.cpu.pc := rfl
@[simp] theorem State.setB_c (s : State) (f : Bool) : (s.setB f).cpu.c = s.cpu.c := rfl
@[simp] theorem State.setB_z (s : State) (f : Bool) : (s.setB f).cpu.z = s.cpu.z := rfl
@[simp] theorem State.setB_i (s : State) (f : Bool) : (s.setB f).cpu.i = s.cpu.i := rfl
@[simp] theorem State.setB_d (s : State) (f : Bool) : (s.setB f).cpu.d = s.cpu.d := rfl
@[simp] theorem State.setB_b (s : State) (f : Bool) : (s.setB f).cpu.b = f := rfl
@[simp] theorem State.setB_v (s : State) (f : Bool) : (s.setB f).cpu.v = s.cpu.v := rfl
@[simp] theorem State.setB_n (s : State) (f : Bool) : (s.setB f).cpu.n = s.cpu.n := rfl
@[simp] theorem State.setB_cycles (s : State) (f : Bool) : (s.setB f).cpu.cycles = s.cpu.cycles := rfl
@[simp] theorem State.setB_ppu (s : State) (f : Bool) : (s.setB f).ppu = s.ppu := rfl
@[simp] theorem State.setB_wram (s : State) (f : Bool) : (s.setB f).wram = s.wram := rfl
@[simp] theorem State.setB_sram (s : State) (f : Bool) : (s.setB f).sram = s.sram := rfl
@[simp] theorem State.setB_nmiPending (s : State) (f : Bool) : (s.setB f).nmiPending = s.nmiPending := rfl
@[simp] theorem State.setB_fault (s : State) (f : Bool) : (s.setB f).fault = s.fault := rfl
@[simp] theorem State.setB_cart (s : State) (f : Bool) : (s.setB f).cart = s.cart := rfl
@[simp] theorem State.setB_params (s : State) (f : Bool) : (s.setB f).params = s.params := rfl
@[simp] theorem State.setB_host (s : State) (f : Bool) : (s.setB f).host = s.host := rfl

@[simp] theorem State.setV_a (s : State) (f : Bool) : (s.setV f).cpu.a = s.cpu.a := rfl
@[simp] theorem State.setV_x (s : State) (f : Bool) : (s.setV f).cpu.x = s.cpu.x := rfl
@[simp] theorem State.setV_y (s : State) (f : Bool) : (s.setV f).cpu.y = s.cpu.y := rfl
@[simp] theorem State.setV_sp (s : State) (f : Bool) : (s.setV f).cpu.sp = s.cpu.sp := rfl
@[simp] theorem State.setV_pc (s : State) (f : Bool) : (s.setV f).cpu.pc = s.cpu.pc := rfl
@[simp] theorem State.setV_c (s : State) (f : Bool) : (s.setV f).cpu.c = s.cpu.c := rfl
@[simp] theorem State.setV_z (s : State) (f : Bool) : (s.setV f).cpu.z = s.cpu.z := rfl
@[simp] theorem State.setV_i (s : State) (f : Bool) : (s.setV f).cpu.i = s.cpu.i := rfl
@[simp] theorem State.setV_d (s : State) (f : Bool) : (s.setV f).cpu.d = s.cpu.d := rfl
@[simp] theorem State.setV_b (s : State) (f : Bool) : (s.setV f).cpu.b = s.cpu.b := rfl
@[simp] theorem State.setV_v (s : State) (f : Bool) : (s.setV f).cpu.v = f := rfl
@[simp] theorem State.setV_n (s : State) (f : Bool) : (s.setV f).cpu.n = s.cpu.n := rfl
@[simp] theorem State.setV_cycles (s : State) (f : Bool) : (s.setV f).cpu.cycles = s.cpu.cycles := rfl
@[simp] theorem State.setV_ppu (s : State) (f : Bool) : (s.setV f).ppu = s.ppu := rfl
@[simp] theorem State.setV_wram (s : State) (f : Bool) : (s.setV f).wram = s.wram := rfl
@[simp] theorem State.setV_sram (s : State) (f : Bool) : (s.setV f).sram = s.sram := rfl
@[simp] theorem State.setV_nmiPending (s : State) (f : Bool) : (s.setV f).nmiPending = s.nmiPending := rfl
@[simp] theorem State.setV_fault (s : State) (f : Bool) : (s.setV f).fault = s.fault := rfl
@[simp] theorem State.setV_cart (s : State) (f : Bool) : (s.setV f).cart = s.cart := rfl
@[simp] theorem State.setV_params (s : State) (f : Bool) : (s.setV f).params = s.params := rfl
@[simp] theorem State.setV_host (s : State) (f : Bool) : (s.setV f).host = s.host := rfl

@[simp] theorem State.setN_a (s : State) (f : Bool) : (s.setN f).cpu.a = s.cpu.a := rfl
@[simp] theorem State.setN_x (s : State) (f : Bool) : (s.setN f).cpu.x = s.cpu.x := rfl
@[simp] theorem State.setN_y (s : State) (f : Bool) : (s.setN f).cpu.y = s.cpu.y := rfl
@[simp] theorem State.setN_sp (s : State) (f : Bool) : (s.setN f).cpu.sp = s.cpu.sp := rfl
@[simp] theorem State.setN_pc (s : State) (f : Bool) : (s.setN f).cpu.pc = s.cpu.pc := rfl
@[simp] theorem State.setN_c (s : State) (f : Bool) : (s.setN f).cpu.c = s.cpu.c := rfl
@[simp] theorem State.setN_z (s : State) (f : Bool) : (s.setN f).cpu.z = s.cpu.z := rfl
@[simp] theorem State.setN_i (s : State) (f : Bool) : (s.setN f).cpu.i = s.cpu.i := rfl
@[simp] theorem State.setN_d (s : State) (f : Bool) : (s.setN f).cpu.d = s.cpu.d := rfl
@[simp] theorem State.setN_b (s : State) (f : Bool) : (s.setN f).cpu.b = s.cpu.b := rfl
@[simp] theorem State.setN_v (s : State) (f : Bool) : (s.setN f).cpu.v = s.cpu.v := rfl
@[simp] theorem State.setN_n (s : State) (f : Bool) : (s.setN f).cpu.n = f := rfl
@[simp] theorem State.setN_cycles (s : State) (f : Bool) : (s.setN f).cpu.cycles = s.cpu.cycles := rfl
@[simp] theorem State.setN_ppu (s : State) (f : Bool) : (s.setN f).ppu = s.ppu := rfl
@[simp] theorem State.setN_wram (s : State) (f : Bool) : (s.setN f).wram = s.wram := rfl
@[simp] theorem State.setN_sram (s : State) (f : Bool) : (s.setN f).sram = s.sram := rfl
@[simp] theorem State.setN_nmiPending (s : State) (f : Bool) : (s.setN f).nmiPending = s.nmiPending := rfl
@[simp] theorem State.setN_fault (s : State) (f : Bool) : (s.setN f).fault = s.fault := rfl
@[simp] theorem State.setN_cart (s : State) (f : Bool) : (s.setN f).cart = s.cart := rfl
@[simp] theorem State.setN_params (s : State) (f : Bool) : (s.setN f).params = s.params := rfl
@[simp] theorem State.setN_host (s : State) (f : Bool) : (s.setN f).host = s.host := rfl

@[simp] theorem State.addCycles_a (s : State) (k : Nat) : (s.addCycles k).cpu.a = s.cpu.a := rfl
@[simp] theorem State.addCycles_x (s : State) (k : Nat) : (s.addCycles k).cpu.x = s.cpu.x := rfl
@[simp] theorem State.addCycles_y (s : State) (k : Nat) : (s.addCycles k).cpu.y = s.cpu.y := rfl
@[simp] theorem State.addCycles_sp (s : State) (k : Nat) : (s.addCycles k).cpu.sp = s.cpu.sp := rfl
@[simp] theorem State.addCycles_pc (s : State) (k : Nat) : (s.addCycles k).cpu.pc = s.cpu.pc := rfl
@[simp] theorem State.addCycles_c (s : State) (k : Nat) : (s.addCycles k).cpu.c = s.cpu.c := rfl
@[simp] theorem State.addCycles_z (s : State) (k : Nat) : (s.addCycles k).cpu.z = s.cpu.z := rfl
@[simp] theorem State.addCycles_i (s : State) (k : Nat) : (s.addCycles k).cpu.i = s.cpu.i := rfl
@[simp] theorem State.addCycles_d (s : State) (k : Nat) : (s.addCycles k).cpu.d = s.cpu.d := rfl
@[simp] theorem State.addCycles_b (s : State) (k : Nat) : (s.addCycles k).cpu.b = s.cpu.b := rfl
@[simp] theorem State.addCycles_v (s : State) (k : Nat) : (s.addCycles k).cpu.v = s.cpu.v := rfl
@[simp] theorem State.addCycles_n (s : State) (k : Nat) : (s.addCycles k).cpu.n = s.cpu.n := rfl
@[simp] theorem State.addCycles_cycles (s : State) (k : Nat) : (s.addCycles k).cpu.cycles = s.cpu.cycles + k := rfl
@[simp] theorem State.addCycles_ppu (s : State) (k : Nat) : (s.addCycles k).ppu = s.ppu := rfl
@[simp] theorem State.addCycles_wram (s : State) (k : Nat) : (s.addCycles k).wram = s.wram := rfl
@[simp] theorem State.addCycles_sram (s : State) (k : Nat) : (s.addCycles k).sram = s.sram := rfl
@[simp] theorem State.addCycles_nmiPending (s : State) (k : Nat) : (s.addCycles k).nmiPending = s.nmiPending := rfl
@[simp] theorem State.addCycles_fault (s : State) (k : Nat) : (s.addCycles k).fault = s.fault := rfl
@[simp] theorem State.addCycles_cart (s : State) (k : Nat) : (s.addCycles k).cart = s.cart := rfl
@[simp] theorem State.addCycles_params (s : State) (k : Nat) : (s.addCycles k).params = s.params := rfl
@[simp] theorem State.addCycles_host (s : State) (k : Nat) : (s.addCycles k).host = s.host := rfl

@[simp] theorem State.setPpu_cpu (s : State) (m : Ppu) : (s.setPpu m).cpu = s.cpu := rfl
@[simp] theorem State.setPpu_ppu (s : State) (m : Ppu) : (s.setPpu m).ppu = m := rfl
@[simp] theorem State.setPpu_wram (s : State) (m : Ppu) : (s.setPpu m).wram = s.wram := rfl
@[simp] theorem State.setPpu_sram (s : State) (m : Ppu) : (s.setPpu m).sram = s.sram := rfl
@[simp] theorem State.setPpu_nmiPending (s : State) (m : Ppu) : (s.setPpu m).nmiPending = s.nmiPending := rfl
@[simp] theorem State.setPpu_fault (s : State) (m : Ppu) : (s.setPpu m).fault = s.fault := rfl
@[simp] theorem State.setPpu_cart (s : State) (m : Ppu) : (s.setPpu m).cart = s.cart := rfl
@[simp] theorem State.setPpu_params (s : State) (m : Ppu) : (s.setPpu m).params = s.params := rfl
@[simp] theorem State.setPpu_host (s : State) (m : Ppu) : (s.setPpu m).host = s.host := rfl

@[simp] theorem State.setWram_cpu (s : State) (m : Memory) : (s.setWram m).cpu = s.cpu := rfl
@[simp] theorem State.setWram_ppu (s : State) (m : Memory) : (s.setWram m).ppu = s.ppu := rfl
@[simp] theorem State.setWram_wram (s : State) (m : Memory) : (s.setWram m).wram = m := rfl
@[simp] theorem State.setWram_sram (s : State) (m : Memory) : (s.setWram m).sram = s.sram := rfl
@[simp] theorem State.setWram_nmiPending (s : State) (m : Memory) : (s.setWram m).nmiPending = s.nmiPending := rfl
@[simp] theorem State.setWram_fault (s : State) (m : Memory) : (s.setWram m).fault = s.fault := rfl
@[simp] theorem State.setWram_cart (s : State) (m : Memory) : (s.setWram m).cart = s.cart := rfl
@[simp] theorem State.setWram_params (s : State) (m : Memory) : (s.setWram m).params = s.params := rfl
@[simp] theorem State.setWram_host (s : State) (m : Memory) : (s.setWram m).host = s.host := rfl

@[simp] theorem State.setSram_cpu (s : State) (m : Memory) : (s.setSram m).cpu = s.cpu := rfl
@[simp] theorem State.setSram_ppu (s : State) (m : Memory) : (s.setSram m).ppu = s.ppu := rfl
@[simp] theorem State.setSram_wram (s : State) (m : Memory) : (s.setSram m).wram = s.wram := rfl
@[simp] theorem State.setSram_sram (s : State) (m : Memory) : (s.setSram m).sram = m := rfl
@[simp] theorem State.setSram_nmiPending (s : State) (m : Memory) : (s.setSram m).nmiPending = s.nmiPending := rfl
@[simp] theorem State.setSram_fault (s : State) (m : Memory) : (s.setSram m).fault = s.fault := rfl
@[simp] theorem State.setSram_cart (s : State) (m : Memory) : (s.setSram m).cart = s.cart := rfl
@[simp] theorem State.setSram_params (s : State) (m : Memory) : (s.setSram m).params = s.params := rfl
@[simp] theorem State.setSram_host (s : State) (m : Memory) : (s.setSram m).host = s.host := rfl

@[simp] theorem State.setNmiPending_cpu (s : State) (m : Bool) : (s.setNmiPending m).cpu = s.cpu := rfl
@[simp] theorem State.setNmiPending_ppu (s : State) (m : Bool) : (s.setNmiPending m).ppu = s.ppu := rfl
@[simp] theorem State.setNmiPending_wram (s : State) (m : Bool) : (s.setNmiPending m).wram = s.wram := rfl
@[simp] theorem State.setNmiPending_sram (s : State) (m : Bool) : (s.setNmiPending m).sram = s.sram := rfl
@[simp] theorem State.setNmiPending_nmiPending (s : State) (m : Bool) : (s.setNmiPending m).nmiPending = m := rfl
@[simp] theorem State.setNmiPending_fault (s : State) (m : Bool) : (s.setNmiPending m).fault = s.fault := rfl
@[simp] theorem State.setNmiPending_cart (s : State) (m : Bool) : (s.setNmiPending m).cart = s.cart := rfl
@[simp] theorem State.setNmiPending_params (s : State) (m : Bool) : (s.setNmiPending m).params = s.params := rfl
@[simp] theorem State.setNmiPending_host (s : State) (m : Bool) : (s.setNmiPending m).host = s.host := rfl

@[simp] theorem State.setHost_cpu (s : State) (m : HostPort) : (s.setHost m).cpu = s.cpu := rfl
@[simp] theorem State.setHost_ppu (s : State) (m : HostPort) : (s.setHost m).ppu = s.ppu := rfl
@[simp] theorem State.setHost_wram (s : State) (m : HostPort) : (s.setHost m).wram = s.wram := rfl
@[simp] theorem State.setHost_sram (s : State) (m : HostPort) : (s.setHost m).sram = s.sram := rfl
@[simp] theorem State.setHost_nmiPending (s : State) (m : HostPort) : (s.setHost m).nmiPending = s.nmiPending := rfl
@[simp] theorem State.setHost_fault (s : State) (m : HostPort) : (s.setHost m).fault = s.fault := rfl
@[simp] theorem State.setHost_cart (s : State) (m : HostPort) : (s.setHost m).cart = s.cart := rfl
@[simp] theorem State.setHost_params (s : State) (m : HostPort) : (s.setHost m).params = s.params := rfl
@[simp] theorem State.setHost_host (s : State) (m : HostPort) : (s.setHost m).host = m := rfl

end Sys2Proof.Machine
end

