-- ==== Sys2Proof/Laws/Flags.lean ====
section
/-! SUPPORT. Laws/Flags.lean: what the flag computations write, field by field, and the packed status byte. -/

namespace Sys2Proof.Machine

@[simp] theorem setZN_a (s : State) (v : Byte) : (setZN s v).cpu.a = s.cpu.a := rfl
@[simp] theorem setZN_x (s : State) (v : Byte) : (setZN s v).cpu.x = s.cpu.x := rfl
@[simp] theorem setZN_y (s : State) (v : Byte) : (setZN s v).cpu.y = s.cpu.y := rfl
@[simp] theorem setZN_sp (s : State) (v : Byte) : (setZN s v).cpu.sp = s.cpu.sp := rfl
@[simp] theorem setZN_pc (s : State) (v : Byte) : (setZN s v).cpu.pc = s.cpu.pc := rfl
@[simp] theorem setZN_c (s : State) (v : Byte) : (setZN s v).cpu.c = s.cpu.c := rfl
@[simp] theorem setZN_z (s : State) (v : Byte) : (setZN s v).cpu.z = (v == 0) := rfl
@[simp] theorem setZN_i (s : State) (v : Byte) : (setZN s v).cpu.i = s.cpu.i := rfl
@[simp] theorem setZN_d (s : State) (v : Byte) : (setZN s v).cpu.d = s.cpu.d := rfl
@[simp] theorem setZN_b (s : State) (v : Byte) : (setZN s v).cpu.b = s.cpu.b := rfl
@[simp] theorem setZN_v (s : State) (v : Byte) : (setZN s v).cpu.v = s.cpu.v := rfl
@[simp] theorem setZN_n (s : State) (v : Byte) : (setZN s v).cpu.n = v.getLsbD 7 := rfl
@[simp] theorem setZN_cycles (s : State) (v : Byte) : (setZN s v).cpu.cycles = s.cpu.cycles := rfl
@[simp] theorem setZN_ppu (s : State) (v : Byte) : (setZN s v).ppu = s.ppu := rfl
@[simp] theorem setZN_wram (s : State) (v : Byte) : (setZN s v).wram = s.wram := rfl
@[simp] theorem setZN_sram (s : State) (v : Byte) : (setZN s v).sram = s.sram := rfl
@[simp] theorem setZN_nmiPending (s : State) (v : Byte) : (setZN s v).nmiPending = s.nmiPending := rfl
@[simp] theorem setZN_fault (s : State) (v : Byte) : (setZN s v).fault = s.fault := rfl
@[simp] theorem setZN_cart (s : State) (v : Byte) : (setZN s v).cart = s.cart := rfl
@[simp] theorem setZN_params (s : State) (v : Byte) : (setZN s v).params = s.params := rfl
@[simp] theorem setZN_host (s : State) (v : Byte) : (setZN s v).host = s.host := rfl

@[simp] theorem unpackP_a (s : State) (p : Byte) : (unpackP s p).cpu.a = s.cpu.a := rfl
@[simp] theorem unpackP_x (s : State) (p : Byte) : (unpackP s p).cpu.x = s.cpu.x := rfl
@[simp] theorem unpackP_y (s : State) (p : Byte) : (unpackP s p).cpu.y = s.cpu.y := rfl
@[simp] theorem unpackP_sp (s : State) (p : Byte) : (unpackP s p).cpu.sp = s.cpu.sp := rfl
@[simp] theorem unpackP_pc (s : State) (p : Byte) : (unpackP s p).cpu.pc = s.cpu.pc := rfl
@[simp] theorem unpackP_c (s : State) (p : Byte) : (unpackP s p).cpu.c = p.getLsbD 0 := rfl
@[simp] theorem unpackP_z (s : State) (p : Byte) : (unpackP s p).cpu.z = p.getLsbD 1 := rfl
@[simp] theorem unpackP_i (s : State) (p : Byte) : (unpackP s p).cpu.i = p.getLsbD 2 := rfl
@[simp] theorem unpackP_d (s : State) (p : Byte) : (unpackP s p).cpu.d = p.getLsbD 3 := rfl
@[simp] theorem unpackP_b (s : State) (p : Byte) : (unpackP s p).cpu.b = false := rfl
@[simp] theorem unpackP_v (s : State) (p : Byte) : (unpackP s p).cpu.v = p.getLsbD 6 := rfl
@[simp] theorem unpackP_n (s : State) (p : Byte) : (unpackP s p).cpu.n = p.getLsbD 7 := rfl
@[simp] theorem unpackP_cycles (s : State) (p : Byte) : (unpackP s p).cpu.cycles = s.cpu.cycles := rfl
@[simp] theorem unpackP_ppu (s : State) (p : Byte) : (unpackP s p).ppu = s.ppu := rfl
@[simp] theorem unpackP_wram (s : State) (p : Byte) : (unpackP s p).wram = s.wram := rfl
@[simp] theorem unpackP_sram (s : State) (p : Byte) : (unpackP s p).sram = s.sram := rfl
@[simp] theorem unpackP_nmiPending (s : State) (p : Byte) : (unpackP s p).nmiPending = s.nmiPending := rfl
@[simp] theorem unpackP_fault (s : State) (p : Byte) : (unpackP s p).fault = s.fault := rfl
@[simp] theorem unpackP_cart (s : State) (p : Byte) : (unpackP s p).cart = s.cart := rfl
@[simp] theorem unpackP_params (s : State) (p : Byte) : (unpackP s p).params = s.params := rfl
@[simp] theorem unpackP_host (s : State) (p : Byte) : (unpackP s p).host = s.host := rfl

@[simp] theorem compare_a (s : State) (r : Byte) (m : Byte) : (compare s r m).cpu.a = s.cpu.a := rfl
@[simp] theorem compare_x (s : State) (r : Byte) (m : Byte) : (compare s r m).cpu.x = s.cpu.x := rfl
@[simp] theorem compare_y (s : State) (r : Byte) (m : Byte) : (compare s r m).cpu.y = s.cpu.y := rfl
@[simp] theorem compare_sp (s : State) (r : Byte) (m : Byte) : (compare s r m).cpu.sp = s.cpu.sp := rfl
@[simp] theorem compare_pc (s : State) (r : Byte) (m : Byte) : (compare s r m).cpu.pc = s.cpu.pc := rfl
@[simp] theorem compare_c (s : State) (r : Byte) (m : Byte) : (compare s r m).cpu.c = decide (m.toNat ≤ r.toNat) := rfl
@[simp] theorem compare_z (s : State) (r : Byte) (m : Byte) : (compare s r m).cpu.z = (r == m) := rfl
@[simp] theorem compare_i (s : State) (r : Byte) (m : Byte) : (compare s r m).cpu.i = s.cpu.i := rfl
@[simp] theorem compare_d (s : State) (r : Byte) (m : Byte) : (compare s r m).cpu.d = s.cpu.d := rfl
@[simp] theorem compare_b (s : State) (r : Byte) (m : Byte) : (compare s r m).cpu.b = s.cpu.b := rfl
@[simp] theorem compare_v (s : State) (r : Byte) (m : Byte) : (compare s r m).cpu.v = s.cpu.v := rfl
@[simp] theorem compare_n (s : State) (r : Byte) (m : Byte) : (compare s r m).cpu.n = (r - m).getLsbD 7 := rfl
@[simp] theorem compare_cycles (s : State) (r : Byte) (m : Byte) : (compare s r m).cpu.cycles = s.cpu.cycles := rfl
@[simp] theorem compare_ppu (s : State) (r : Byte) (m : Byte) : (compare s r m).ppu = s.ppu := rfl
@[simp] theorem compare_wram (s : State) (r : Byte) (m : Byte) : (compare s r m).wram = s.wram := rfl
@[simp] theorem compare_sram (s : State) (r : Byte) (m : Byte) : (compare s r m).sram = s.sram := rfl
@[simp] theorem compare_nmiPending (s : State) (r : Byte) (m : Byte) : (compare s r m).nmiPending = s.nmiPending := rfl
@[simp] theorem compare_fault (s : State) (r : Byte) (m : Byte) : (compare s r m).fault = s.fault := rfl
@[simp] theorem compare_cart (s : State) (r : Byte) (m : Byte) : (compare s r m).cart = s.cart := rfl
@[simp] theorem compare_params (s : State) (r : Byte) (m : Byte) : (compare s r m).params = s.params := rfl
@[simp] theorem compare_host (s : State) (r : Byte) (m : Byte) : (compare s r m).host = s.host := rfl

@[simp] theorem bitTest_a (s : State) (m : Byte) : (bitTest s m).cpu.a = s.cpu.a := rfl
@[simp] theorem bitTest_x (s : State) (m : Byte) : (bitTest s m).cpu.x = s.cpu.x := rfl
@[simp] theorem bitTest_y (s : State) (m : Byte) : (bitTest s m).cpu.y = s.cpu.y := rfl
@[simp] theorem bitTest_sp (s : State) (m : Byte) : (bitTest s m).cpu.sp = s.cpu.sp := rfl
@[simp] theorem bitTest_pc (s : State) (m : Byte) : (bitTest s m).cpu.pc = s.cpu.pc := rfl
@[simp] theorem bitTest_c (s : State) (m : Byte) : (bitTest s m).cpu.c = s.cpu.c := rfl
@[simp] theorem bitTest_z (s : State) (m : Byte) : (bitTest s m).cpu.z = ((s.cpu.a &&& m) == 0) := rfl
@[simp] theorem bitTest_i (s : State) (m : Byte) : (bitTest s m).cpu.i = s.cpu.i := rfl
@[simp] theorem bitTest_d (s : State) (m : Byte) : (bitTest s m).cpu.d = s.cpu.d := rfl
@[simp] theorem bitTest_b (s : State) (m : Byte) : (bitTest s m).cpu.b = s.cpu.b := rfl
@[simp] theorem bitTest_v (s : State) (m : Byte) : (bitTest s m).cpu.v = m.getLsbD 6 := rfl
@[simp] theorem bitTest_n (s : State) (m : Byte) : (bitTest s m).cpu.n = m.getLsbD 7 := rfl
@[simp] theorem bitTest_cycles (s : State) (m : Byte) : (bitTest s m).cpu.cycles = s.cpu.cycles := rfl
@[simp] theorem bitTest_ppu (s : State) (m : Byte) : (bitTest s m).ppu = s.ppu := rfl
@[simp] theorem bitTest_wram (s : State) (m : Byte) : (bitTest s m).wram = s.wram := rfl
@[simp] theorem bitTest_sram (s : State) (m : Byte) : (bitTest s m).sram = s.sram := rfl
@[simp] theorem bitTest_nmiPending (s : State) (m : Byte) : (bitTest s m).nmiPending = s.nmiPending := rfl
@[simp] theorem bitTest_fault (s : State) (m : Byte) : (bitTest s m).fault = s.fault := rfl
@[simp] theorem bitTest_cart (s : State) (m : Byte) : (bitTest s m).cart = s.cart := rfl
@[simp] theorem bitTest_params (s : State) (m : Byte) : (bitTest s m).params = s.params := rfl
@[simp] theorem bitTest_host (s : State) (m : Byte) : (bitTest s m).host = s.host := rfl

@[simp] theorem addWithCarry_a (s : State) (m : Byte) :
    (addWithCarry s m).cpu.a = BitVec.ofNat 8 (s.cpu.a.toNat + m.toNat + s.cpu.c.toNat) := rfl
@[simp] theorem addWithCarry_x (s : State) (m : Byte) : (addWithCarry s m).cpu.x = s.cpu.x := rfl
@[simp] theorem addWithCarry_y (s : State) (m : Byte) : (addWithCarry s m).cpu.y = s.cpu.y := rfl
@[simp] theorem addWithCarry_sp (s : State) (m : Byte) : (addWithCarry s m).cpu.sp = s.cpu.sp := rfl
@[simp] theorem addWithCarry_pc (s : State) (m : Byte) : (addWithCarry s m).cpu.pc = s.cpu.pc := rfl
@[simp] theorem addWithCarry_c (s : State) (m : Byte) :
    (addWithCarry s m).cpu.c = decide (0xFF < s.cpu.a.toNat + m.toNat + s.cpu.c.toNat) := rfl
@[simp] theorem addWithCarry_z (s : State) (m : Byte) :
    (addWithCarry s m).cpu.z = ((BitVec.ofNat 8 (s.cpu.a.toNat + m.toNat + s.cpu.c.toNat)) == 0) := rfl
@[simp] theorem addWithCarry_i (s : State) (m : Byte) : (addWithCarry s m).cpu.i = s.cpu.i := rfl
@[simp] theorem addWithCarry_d (s : State) (m : Byte) : (addWithCarry s m).cpu.d = s.cpu.d := rfl
@[simp] theorem addWithCarry_b (s : State) (m : Byte) : (addWithCarry s m).cpu.b = s.cpu.b := rfl
@[simp] theorem addWithCarry_v (s : State) (m : Byte) :
    (addWithCarry s m).cpu.v =
      (((s.cpu.a ^^^ BitVec.ofNat 8 (s.cpu.a.toNat + m.toNat + s.cpu.c.toNat)) &&&
        (m ^^^ BitVec.ofNat 8 (s.cpu.a.toNat + m.toNat + s.cpu.c.toNat)) &&& 0x80#8) != 0) := rfl
@[simp] theorem addWithCarry_n (s : State) (m : Byte) :
    (addWithCarry s m).cpu.n = (BitVec.ofNat 8 (s.cpu.a.toNat + m.toNat + s.cpu.c.toNat)).getLsbD 7 := rfl
@[simp] theorem addWithCarry_cycles (s : State) (m : Byte) : (addWithCarry s m).cpu.cycles = s.cpu.cycles := rfl
@[simp] theorem addWithCarry_ppu (s : State) (m : Byte) : (addWithCarry s m).ppu = s.ppu := rfl
@[simp] theorem addWithCarry_wram (s : State) (m : Byte) : (addWithCarry s m).wram = s.wram := rfl
@[simp] theorem addWithCarry_sram (s : State) (m : Byte) : (addWithCarry s m).sram = s.sram := rfl
@[simp] theorem addWithCarry_nmiPending (s : State) (m : Byte) : (addWithCarry s m).nmiPending = s.nmiPending := rfl
@[simp] theorem addWithCarry_fault (s : State) (m : Byte) : (addWithCarry s m).fault = s.fault := rfl
@[simp] theorem addWithCarry_cart (s : State) (m : Byte) : (addWithCarry s m).cart = s.cart := rfl
@[simp] theorem addWithCarry_params (s : State) (m : Byte) : (addWithCarry s m).params = s.params := rfl
@[simp] theorem addWithCarry_host (s : State) (m : Byte) : (addWithCarry s m).host = s.host := rfl

/-- Bit k of the packed status byte (rule R37). -/
theorem packP_bits (c : Cpu) :
    (packP c).getLsbD 0 = c.c ∧ (packP c).getLsbD 1 = c.z ∧ (packP c).getLsbD 2 = c.i ∧ (packP c).getLsbD 3 = c.d ∧
      (packP c).getLsbD 4 = c.b ∧ (packP c).getLsbD 5 = true ∧ (packP c).getLsbD 6 = c.v ∧
      (packP c).getLsbD 7 = c.n := by
  unfold packP
  generalize c.c = fc, c.z = fz, c.i = fi, c.d = fd, c.b = fb, c.v = fv, c.n = fn
  revert fc fz fi fd fb fv fn
  decide

/-- Unpacking a byte and packing again keeps bits 0-3, 6 and 7, clears bit 4 and sets bit 5 (rules R37, R38). -/
theorem packP_unpackP (s : State) (p : Byte) : packP (unpackP s p).cpu = (p &&& 0xCF) ||| 0x20 := by
  have h : ∀ p : Byte, BitVec.ofBool (p.getLsbD 7) ++ BitVec.ofBool (p.getLsbD 6) ++ 1#1 ++ BitVec.ofBool false
      ++ BitVec.ofBool (p.getLsbD 3) ++ BitVec.ofBool (p.getLsbD 2) ++ BitVec.ofBool (p.getLsbD 1)
      ++ BitVec.ofBool (p.getLsbD 0) = (p &&& 0xCF) ||| 0x20 := by decide
  exact h p

end Sys2Proof.Machine
end

