-- ==== Sys2Proof/Laws/Ops.lean ====
section
/-! SUPPORT. Laws/Ops.lean: what the shared operations over the CPU bus and the stack answer, and, said once for all
of them, what they can change (`Moves`). -/

namespace Sys2Proof.Machine

@[simp] theorem Res.bind_ok {α β : Type} (a : α) (s : State) (k : α → State → Res β) :
    (Res.ok a s).bind k = k a s := rfl

@[simp] theorem Res.bind_fatal {α β : Type} (f : Fatal) (s : State) (k : α → State → Res β) :
    (Res.fatal f s : Res α).bind k = .fatal f s := rfl

@[simp] theorem Res.faultIn_ok {α : Type} (a : α) (s : State) (g : State → State) :
    (Res.ok a s).faultIn g = .ok a s := rfl

@[simp] theorem Res.faultIn_fatal {α : Type} (f : Fatal) (s : State) (g : State → State) :
    (Res.fatal f s : Res α).faultIn g = .fatal f (g s) := rfl

/-- `faultIn` changes no answer. -/
theorem Res.faultIn_eq_ok {α : Type} {r : Res α} {g : State → State} {a : α} {s : State} :
    r.faultIn g = .ok a s ↔ r = .ok a s := by
  cases r <;> simp

/-- A sequence answers only if both parts do. -/
theorem Res.bind_eq_ok {α β : Type} {r : Res α} {k : α → State → Res β} {b : β} {t : State} :
    r.bind k = .ok b t ↔ ∃ a s, r = .ok a s ∧ k a s = .ok b t := by
  cases r <;> simp [Res.bind]

/-- A sequence is fatal where its first part is, or its second after it. -/
theorem Res.bind_eq_fatal {α β : Type} {r : Res α} {k : α → State → Res β} {f : Fatal} {t : State} :
    r.bind k = .fatal f t ↔ r = .fatal f t ∨ ∃ a s, r = .ok a s ∧ k a s = .fatal f t := by
  cases r <;> simp [Res.bind]

/-- A next state is a result that is no fatal condition. -/
theorem Res.outcome_eq_next {α : Type} {r : Res α} {t : State} : r.outcome = .next t ↔ ∃ a, r = .ok a t := by
  cases r <;> simp [Res.outcome]

/-- No operation of the machine is refused. -/
theorem Res.outcome_ne_refused {α : Type} (r : Res α) (f : Refusal) : r.outcome ≠ .refused f := by
  cases r <;> simp [Res.outcome]

/-- Plain memory is read without side effect (rules R73, R79, R80). -/
theorem memRead_plain {s : State} {a : Word} {b : Byte} (h : peek s a = some b) : memRead s a = .ok b s := by
  unfold peek at h
  unfold memRead
  split_ifs at h ⊢ <;> first | omega | simp_all

/-- Work RAM (rule R73). -/
theorem memRead_wram {s : State} {a : Word} (h : a.toNat < 0x2000) :
    memRead s a = .ok (s.wram.read (a.toNat % 0x800)) s := by
  unfold memRead
  repeat rw [if_neg (by omega)]

/-- Static RAM (rule R79). -/
theorem memRead_sram {s : State} {a : Word} (h : 0x6000 ≤ a.toNat) (h' : a.toNat < 0x8000) :
    memRead s a = .ok (s.sram.read (a.toNat - 0x6000)) s := by
  unfold memRead
  rw [if_neg (by omega), if_pos h]

/-- Program ROM (rule R80). -/
theorem memRead_rom {s : State} {a : Word} (h : 0x8000 ≤ a.toNat) : memRead s a = .ok (prgRead s.cart a.toNat) s := by
  unfold memRead
  rw [if_pos h]

/-- Work RAM (rule R73). -/
theorem memWrite_wram {s : State} {a : Word} {v : Byte} (h : a.toNat < 0x2000) :
    memWrite s a v = .ok () (s.setWram (s.wram.write (a.toNat % 0x800) v)) := by
  unfold memWrite
  repeat rw [if_neg (by omega)]

/-- Static RAM (rule R79). -/
theorem memWrite_sram {s : State} {a : Word} {v : Byte} (h : 0x6000 ≤ a.toNat) (h' : a.toNat < 0x8000) :
    memWrite s a v = .ok () (s.setSram (s.sram.write (a.toNat - 0x6000) v)) := by
  unfold memWrite
  rw [if_neg (by omega), if_pos h]

/-- The stack byte's offset in work RAM. -/
theorem stackAddr_toNat (sp : Byte) : (stackAddr sp).toNat = 0x100 + sp.toNat := by
  have h : ∀ sp : Byte, (stackAddr sp).toNat = 0x100 + sp.toNat := by decide
  exact h sp

/-- The zero-page address as a number. -/
theorem zeroPage_toNat (z : Byte) : (zeroPage z).toNat = z.toNat := by
  have h : ∀ z : Byte, (zeroPage z).toNat = z.toNat := by decide
  exact h z

/-- `Push` answers always: the stack is work RAM (rules R84, R494). -/
theorem push_eq (s : State) (v : Byte) :
    push s v = .ok () ((s.setWram (s.wram.write (0x100 + s.cpu.sp.toNat) v)).setSp (s.cpu.sp - 1)) := by
  have hb := s.cpu.sp.isLt
  have h : (stackAddr s.cpu.sp).toNat < 0x2000 := by rw [stackAddr_toNat]; omega
  have h' : (0x100 + s.cpu.sp.toNat) % 0x800 = 0x100 + s.cpu.sp.toNat := Nat.mod_eq_of_lt (by omega)
  rw [push, memWrite_wram h, stackAddr_toNat, h']
  rfl

/-- `Pull` answers always (rules R84, R494). -/
theorem pull_eq (s : State) :
    pull s = .ok (s.wram.read (0x100 + (s.cpu.sp + 1).toNat)) (s.setSp (s.cpu.sp + 1)) := by
  have hb := (s.cpu.sp + 1).isLt
  have h : (stackAddr (s.cpu.sp + 1)).toNat < 0x2000 := by rw [stackAddr_toNat]; omega
  have h' : (0x100 + (s.cpu.sp + 1).toNat) % 0x800 = 0x100 + (s.cpu.sp + 1).toNat := Nat.mod_eq_of_lt (by omega)
  rw [pull, memRead_wram h, stackAddr_toNat, h']
  rfl

/-- `Push16` (rule R85): the high byte at SP, the low byte below it. -/
theorem push16_eq (s : State) (v : Word) :
    push16 s v = .ok () ((s.setWram ((s.wram.write (0x100 + s.cpu.sp.toNat) (hiByte v)).write
      (0x100 + (s.cpu.sp - 1).toNat) (loByte v))).setSp (s.cpu.sp - 1 - 1)) := by
  rw [push16, push_eq, Res.bind_ok, push_eq]
  rfl

/-- `Pull16` (rule R85): the low byte first. -/
theorem pull16_eq (s : State) :
    pull16 s = .ok (wordOf (s.wram.read (0x100 + (s.cpu.sp + 1 + 1).toNat)) (s.wram.read (0x100 + (s.cpu.sp + 1).toNat)))
      (s.setSp (s.cpu.sp + 1 + 1)) := by
  rw [pull16, pull_eq, Res.bind_ok, pull_eq]
  rfl

/-- A vector is read from program ROM without side effect (rules R86, R494). -/
theorem memRead16_rom {s : State} {a : Word} (h : 0x8000 ≤ a.toNat) (h' : 0x8000 ≤ (a + 1).toNat) :
    memRead16 s a = .ok (wordOf (prgRead s.cart (a + 1).toNat) (prgRead s.cart a.toNat)) s := by
  rw [memRead16, memRead_rom h, Res.bind_ok, memRead_rom h', Res.bind_ok]

/-- The word at a vector (rule R86). -/
def vectorWord (c : Cartridge) (v : Word) : Word := wordOf (prgRead c (v + 1).toNat) (prgRead c v.toNat)

/-- Work RAM after an exception has pushed its three bytes (rules R273, R493). -/
def exceptionFrame (s : State) (ret : Word) (status : Byte) : Memory :=
  ((s.wram.write (0x100 + s.cpu.sp.toNat) (hiByte ret)).write (0x100 + (s.cpu.sp - 1).toNat) (loByte ret)).write
    (0x100 + (s.cpu.sp - 1 - 1).toNat) status

/-- Taking an exception answers always (rule R494), and this is the state it leaves (rules R273, R493). -/
theorem takeException_eq (s : State) (ret : Word) (status : Byte) {vector : Word} (h : 0x8000 ≤ vector.toNat)
    (h' : 0x8000 ≤ (vector + 1).toNat) :
    takeException s ret status vector = .ok () ((((s.setWram (exceptionFrame s ret status)).setSp
      (s.cpu.sp - 1 - 1 - 1)).setI true).setPc (vectorWord s.cart vector)) := by
  rw [takeException, push16_eq, Res.bind_ok, push_eq, Res.bind_ok, memRead16_rom h h', Res.bind_ok]
  rfl

/-- An interrupt entry answers always (rule R494), and this is the state it leaves (rule R493). -/
theorem interruptEntry_eq (s : State) {vector : Word} (h : 0x8000 ≤ vector.toNat) (h' : 0x8000 ≤ (vector + 1).toNat) :
    interruptEntry s vector = .ok () (((((s.setWram (exceptionFrame s s.cpu.pc (interruptStatus s))).setSp
      (s.cpu.sp - 1 - 1 - 1)).setI true).setPc (vectorWord s.cart vector)).addCycles 7) := by
  rw [interruptEntry, takeException_eq _ _ _ h h']
  rfl

/-- Returning from an exception answers always, and this is the state it leaves (rule R272). -/
theorem returnFromException_eq (s : State) :
    returnFromException s = .ok () (((unpackP s (s.wram.read (0x100 + (s.cpu.sp + 1).toNat))).setSp
      (s.cpu.sp + 1 + 1 + 1)).setPc (wordOf (s.wram.read (0x100 + (s.cpu.sp + 1 + 1 + 1).toNat))
        (s.wram.read (0x100 + (s.cpu.sp + 1 + 1).toNat)))) := by
  rw [returnFromException, pull_eq, Res.bind_ok, pull16_eq]
  rfl

/-- What the part of a driver step before its picture dots can change: it keeps the canonical form of every store,
the configuration, the fault flag, the picture engine's counters, sprite lists and frame, and what the host was handed;
`cycles` does not go back and B is not set. -/
structure Moves (s t : State) : Prop where
  mem : MemoriesWf s → MemoriesWf t
  params : t.params = s.params
  cart : t.cart = s.cart
  fault : t.fault = s.fault
  cycles : s.cpu.cycles ≤ t.cpu.cycles
  b : s.cpu.b = false → t.cpu.b = false
  scanline : t.ppu.scanline = s.ppu.scanline
  dot : t.ppu.dot = s.ppu.dot
  oddFrame : t.ppu.oddFrame = s.ppu.oddFrame
  secondary : t.ppu.secondary = s.ppu.secondary
  units : t.ppu.units = s.ppu.units
  frame : t.ppu.frame = s.ppu.frame
  ticks : t.ppu.ticks = s.ppu.ticks
  framesDone : t.host.framesDone = s.host.framesDone
  presented : t.host.presented = s.host.presented
  irqLevels : t.host.irqLevels = s.host.irqLevels

theorem Moves.refl (s : State) : Moves s s :=
  ⟨id, rfl, rfl, rfl, Nat.le_refl _, id, rfl, rfl, rfl, rfl, rfl, rfl, rfl, rfl, rfl, rfl⟩

theorem Moves.trans {s t u : State} (h : Moves s t) (h' : Moves t u) : Moves s u :=
  ⟨h'.mem ∘ h.mem, h'.params.trans h.params, h'.cart.trans h.cart, h'.fault.trans h.fault, h.cycles.trans h'.cycles,
    h'.b ∘ h.b, h'.scanline.trans h.scanline, h'.dot.trans h.dot, h'.oddFrame.trans h.oddFrame,
    h'.secondary.trans h.secondary, h'.units.trans h.units, h'.frame.trans h.frame, h'.ticks.trans h.ticks,
    h'.framesDone.trans h.framesDone, h'.presented.trans h.presented, h'.irqLevels.trans h.irqLevels⟩

/-- An update of the processor alone that does not take `cycles` back and does not set B. -/
theorem Moves.of_cpu {s t : State} (h : SameOutsideCpu s t) (hc : s.cpu.cycles ≤ t.cpu.cycles)
    (hb : s.cpu.b = false → t.cpu.b = false) : Moves s t := by
  unfold SameOutsideCpu at h
  generalize t.cpu = c at h hc hb
  subst h
  exact ⟨id, rfl, rfl, rfl, hc, hb, rfl, rfl, rfl, rfl, rfl, rfl, rfl, rfl, rfl, rfl⟩

/-- Every state a result can answer is one the start can move to. -/
def Res.Moves {α : Type} (s : State) (r : Res α) : Prop := ∀ a t, r = .ok a t → Machine.Moves s t

theorem Res.Moves.ok {α : Type} {s t : State} {a : α} (h : Machine.Moves s t) : (Res.ok a t).Moves s := by
  intro a' t' e
  cases e
  exact h

theorem Res.Moves.fatal {α : Type} {s t : State} {f : Fatal} : (Res.fatal f t : Res α).Moves s := by
  intro a' t' e
  cases e

theorem Res.Moves.bind {α β : Type} {s : State} {r : Res α} {k : α → State → Res β} (hr : r.Moves s)
    (hk : ∀ a t, Machine.Moves s t → (k a t).Moves t) : (r.bind k).Moves s := by
  intro b u e
  obtain ⟨a, t, h1, h2⟩ := Res.bind_eq_ok.1 e
  have hm := hr a t h1
  exact hm.trans (hk a t hm b u h2)

theorem Res.Moves.faultIn {α : Type} {s : State} {r : Res α} {g : State → State} (hr : r.Moves s) :
    (r.faultIn g).Moves s := fun a t h => hr a t (Res.faultIn_eq_ok.1 h)

/-- The picture registers' reads (rules R357, R361, R365, R367). -/
theorem ppuRegRead_moves (s : State) (r : Nat) : Moves s (ppuRegRead s r).2 := by
  unfold ppuRegRead
  split_ifs
  · exact ⟨id, rfl, rfl, rfl, Nat.le_refl _, id, rfl, rfl, rfl, rfl, rfl, rfl, rfl, rfl, rfl, rfl⟩
  · exact Moves.refl s
  · unfold readData
    dsimp only
    split_ifs <;> exact ⟨id, rfl, rfl, rfl, Nat.le_refl _, id, rfl, rfl, rfl, rfl, rfl, rfl, rfl, rfl, rfl, rfl⟩
  · exact Moves.refl s

/-- The controller's answer (rule R76). -/
theorem controllerRead_moves (s : State) : Moves s (controllerRead s).2 := by
  unfold controllerRead
  split <;> exact ⟨id, rfl, rfl, rfl, Nat.le_refl _, id, rfl, rfl, rfl, rfl, rfl, rfl, rfl, rfl, rfl, rfl⟩

/-- Everything `MemRead` can do (rule R71). -/
theorem memRead_moves (s : State) (a : Word) : (memRead s a).Moves s := by
  unfold memRead
  split_ifs
  · exact .ok (Moves.refl s)
  · exact .ok (Moves.refl s)
  · exact .fatal
  · exact .ok (controllerRead_moves s)
  · exact .ok (Moves.refl s)
  · exact .ok (ppuRegRead_moves s _)
  · exact .ok (Moves.refl s)

/-- `PalIndex` stays inside the palette (rule R93). -/
theorem palIndex_lt (a : Nat) : palIndex a < 32 := by
  unfold palIndex
  dsimp only
  split_ifs <;> omega

/-- Mirrored offsets stay inside name-table RAM (rule R94). -/
theorem nametableOffset_lt (m : Mirroring) {a : Nat} (h : 0x2000 ≤ a) (h' : a < 0x3F00) :
    nametableOffset m a < 4096 := by
  unfold nametableOffset ntMirror
  cases m <;> dsimp only <;> split_ifs <;> omega

/-- A write of the picture side (rule R92). -/
theorem ppuWrite_moves (s : State) (a : Nat) (v : Byte) : (ppuWrite s a v).Moves s := by
  unfold ppuWrite
  dsimp only
  split_ifs with h1 h2
  · refine .ok ⟨fun h => ?_, rfl, rfl, rfl, Nat.le_refl _, id, rfl, rfl, rfl, rfl, rfl, rfl, rfl, rfl, rfl, rfl⟩
    exact ⟨h.1, h.2.1, h.2.2.1, Memory.wf_write (palIndex_lt _) h.2.2.2.1, h.2.2.2.2⟩
  · refine .ok ⟨fun h => ?_, rfl, rfl, rfl, Nat.le_refl _, id, rfl, rfl, rfl, rfl, rfl, rfl, rfl, rfl, rfl, rfl⟩
    exact ⟨h.1, h.2.1, h.2.2.1, h.2.2.2.1, Memory.wf_write (nametableOffset_lt _ h2 (by omega)) h.2.2.2.2.1,
      h.2.2.2.2.2⟩
  · exact .fatal

/-- The picture registers' writes (rules R354-R364). -/
theorem ppuRegWrite_moves (s : State) (r : Nat) (v : Byte) : (ppuRegWrite s r v).Moves s := by
  have hp : ∀ {t : State}, t = s.setPpu t.ppu → t.ppu = { s.ppu with
      ctrl := t.ppu.ctrl, mask := t.ppu.mask, oamAddr := t.ppu.oamAddr, v := t.ppu.v, t := t.ppu.t, x := t.ppu.x,
      w := t.ppu.w } → Moves s t := by
    intro t h1 h2
    rw [h2] at h1
    generalize t.ppu.ctrl = c1, t.ppu.mask = c2, t.ppu.oamAddr = c3, t.ppu.v = c4, t.ppu.t = c5, t.ppu.x = c6,
      t.ppu.w = c7 at h1
    subst h1
    exact ⟨id, rfl, rfl, rfl, Nat.le_refl _, id, rfl, rfl, rfl, rfl, rfl, rfl, rfl, rfl, rfl, rfl⟩
  unfold ppuRegWrite
  split_ifs
  · exact .ok ⟨id, rfl, rfl, rfl, Nat.le_refl _, id, rfl, rfl, rfl, rfl, rfl, rfl, rfl, rfl, rfl, rfl⟩
  · exact .ok (hp rfl rfl)
  · exact .ok (Moves.refl s)
  · exact .ok (hp rfl rfl)
  · refine .ok ⟨fun h => ?_, rfl, rfl, rfl, Nat.le_refl _, id, rfl, rfl, rfl, rfl, rfl, rfl, rfl, rfl, rfl, rfl⟩
    exact ⟨h.1, h.2.1, Memory.wf_write s.ppu.oamAddr.isLt h.2.2.1, h.2.2.2⟩
  · unfold writeScroll
    split_ifs
    · exact .ok (hp rfl rfl)
    · exact .ok (hp rfl rfl)
  · unfold writeAddr
    split_ifs
    · exact .ok (hp rfl rfl)
    · exact .ok (hp rfl rfl)
  · refine Res.Moves.bind (ppuWrite_moves s _ v) fun _ t _ => .ok ?_
    exact ⟨id, rfl, rfl, rfl, Nat.le_refl _, id, rfl, rfl, rfl, rfl, rfl, rfl, rfl, rfl, rfl, rfl⟩

/-- One byte into sprite memory. -/
theorem Moves.oam_write {s : State} {k : Nat} {b : Byte} (hk : k < 256) :
    Moves s (s.setPpu { s.ppu with oam := s.ppu.oam.write k b }) :=
  ⟨fun h => ⟨h.1, h.2.1, Memory.wf_write hk h.2.2.1, h.2.2.2⟩, rfl, rfl, rfl, Nat.le_refl _, id, rfl, rfl, rfl, rfl,
    rfl, rfl, rfl, rfl, rfl, rfl⟩

/-- The copy loop of OAM DMA (rule R77). -/
theorem oamDmaLoop_moves (n : Nat) (src : Word) (dst : Byte) (s : State) : (oamDmaLoop n src dst s).Moves s := by
  induction n generalizing src dst s with
  | zero => exact .ok (Moves.refl s)
  | succ n ih =>
    refine Res.Moves.bind (memRead_moves s src) fun b t _ => ?_
    intro x u e
    exact (Moves.oam_write dst.isLt).trans (ih _ _ _ x u e)

/-- Everything `MemWrite` can do (rule R72). -/
theorem memWrite_moves (s : State) (a : Word) (v : Byte) : (memWrite s a v).Moves s := by
  unfold memWrite
  split_ifs with h1 h2
  · exact .fatal
  · refine .ok ⟨fun h => ?_, rfl, rfl, rfl, Nat.le_refl _, id, rfl, rfl, rfl, rfl, rfl, rfl, rfl, rfl, rfl, rfl⟩
    exact ⟨h.1, Memory.wf_write (by omega) h.2.1, h.2.2⟩
  · exact .fatal
  · refine Res.Moves.bind (oamDmaLoop_moves _ _ _ s) fun _ t _ => .ok ?_
    exact Moves.of_cpu rfl (Nat.le_add_right _ _) id
  · exact .ok ⟨id, rfl, rfl, rfl, Nat.le_refl _, id, rfl, rfl, rfl, rfl, rfl, rfl, rfl, rfl, rfl, rfl⟩
  · exact .ok (Moves.refl s)
  · exact ppuRegWrite_moves s _ v
  · refine .ok ⟨fun h => ?_, rfl, rfl, rfl, Nat.le_refl _, id, rfl, rfl, rfl, rfl, rfl, rfl, rfl, rfl, rfl, rfl⟩
    exact ⟨Memory.wf_write (Nat.mod_lt _ (by decide)) h.1, h.2⟩

theorem memRead16_moves (s : State) (a : Word) : (memRead16 s a).Moves s :=
  (memRead_moves s a).bind fun _ t _ => (memRead_moves t _).bind fun _ u _ => .ok (Moves.refl u)

theorem Moves.setSp (s : State) (v : Byte) : Moves s (s.setSp v) := Moves.of_cpu rfl (Nat.le_refl _) id
theorem Moves.setA (s : State) (v : Byte) : Moves s (s.setA v) := Moves.of_cpu rfl (Nat.le_refl _) id
theorem Moves.setX (s : State) (v : Byte) : Moves s (s.setX v) := Moves.of_cpu rfl (Nat.le_refl _) id
theorem Moves.setY (s : State) (v : Byte) : Moves s (s.setY v) := Moves.of_cpu rfl (Nat.le_refl _) id
theorem Moves.setPc (s : State) (v : Word) : Moves s (s.setPc v) := Moves.of_cpu rfl (Nat.le_refl _) id
theorem Moves.setC (s : State) (f : Bool) : Moves s (s.setC f) := Moves.of_cpu rfl (Nat.le_refl _) id
theorem Moves.setI (s : State) (f : Bool) : Moves s (s.setI f) := Moves.of_cpu rfl (Nat.le_refl _) id
theorem Moves.setD (s : State) (f : Bool) : Moves s (s.setD f) := Moves.of_cpu rfl (Nat.le_refl _) id
theorem Moves.setV (s : State) (f : Bool) : Moves s (s.setV f) := Moves.of_cpu rfl (Nat.le_refl _) id
theorem Moves.setZN (s : State) (v : Byte) : Moves s (setZN s v) := Moves.of_cpu rfl (Nat.le_refl _) id
theorem Moves.unpackP (s : State) (p : Byte) : Moves s (unpackP s p) :=
  Moves.of_cpu rfl (Nat.le_refl _) fun _ => rfl
theorem Moves.compare (s : State) (r m : Byte) : Moves s (compare s r m) := Moves.of_cpu rfl (Nat.le_refl _) id
theorem Moves.bitTest (s : State) (m : Byte) : Moves s (bitTest s m) := Moves.of_cpu rfl (Nat.le_refl _) id
theorem Moves.addWithCarry (s : State) (m : Byte) : Moves s (addWithCarry s m) :=
  Moves.of_cpu rfl (Nat.le_refl _) id
theorem Moves.addCycles (s : State) (k : Nat) : Moves s (s.addCycles k) :=
  Moves.of_cpu rfl (Nat.le_add_right _ _) id

theorem push_moves (s : State) (v : Byte) : (push s v).Moves s :=
  (memWrite_moves s _ v).bind fun _ t _ => .ok (Moves.setSp t _)

theorem push16_moves (s : State) (v : Word) : (push16 s v).Moves s :=
  (push_moves s _).bind fun _ t _ => push_moves t _

theorem pull_moves (s : State) : (pull s).Moves s := fun b t e =>
  (Moves.setSp s _).trans (memRead_moves _ _ b t e)

theorem pull16_moves (s : State) : (pull16 s).Moves s :=
  (pull_moves s).bind fun _ t _ => (pull_moves t).bind fun _ u _ => .ok (Moves.refl u)

theorem takeException_moves (s : State) (ret : Word) (status : Byte) (vector : Word) :
    (takeException s ret status vector).Moves s :=
  (push16_moves s ret).bind fun _ t _ => (push_moves t status).bind fun _ u _ x w e =>
    (Moves.setI u true).trans
      (((memRead16_moves (u.setI true) vector).bind fun target w _ => .ok (Moves.setPc w target)) x w e)

theorem interruptEntry_moves (s : State) (vector : Word) : (interruptEntry s vector).Moves s :=
  (takeException_moves s _ _ _).bind fun _ t _ => .ok (Moves.addCycles t 7)

theorem returnFromException_moves (s : State) : (returnFromException s).Moves s :=
  (pull_moves s).bind fun p t _ x w e =>
    (Moves.unpackP t p).trans (((pull16_moves (unpackP t p)).bind fun target u _ => .ok (Moves.setPc u target)) x w e)

end Sys2Proof.Machine
end

