-- ==== Sys2Proof/Laws/Operands.lean ====
section
/-! SUPPORT. Laws/Operands.lean: the addressing modes, the operand accessors and the instruction cycle: what they
answer, and that all of it only `Moves`. -/

namespace Sys2Proof.Machine

/-- A pointer in page 0 is read from work RAM without side effect, its high byte from page 0 too (rules R161, R162). -/
theorem readPointer_zeroPage (s : State) (z : Byte) :
    readPointer s (zeroPage z) = .ok (wordOf (s.wram.read (z + 1).toNat) (s.wram.read z.toNat)) s := by
  have hz := z.isLt
  have hz' := (z + 1).isLt
  have hn : nextInPage (zeroPage z) = zeroPage (z + 1) := by
    have h : ∀ z : Byte, nextInPage (zeroPage z) = zeroPage (z + 1) := by decide
    exact h z
  have e : ∀ w : Byte, w.toNat % 0x800 = w.toNat := fun w => Nat.mod_eq_of_lt (by have := w.isLt; omega)
  rw [readPointer, memRead_wram (by rw [zeroPage_toNat]; omega), Res.bind_ok, hn,
    memRead_wram (by rw [zeroPage_toNat]; omega), Res.bind_ok, zeroPage_toNat, zeroPage_toNat, e, e]

theorem readPointer_moves (s : State) (ptr : Word) : (readPointer s ptr).Moves s :=
  (memRead_moves s ptr).bind fun _ t _ => (memRead_moves t _).bind fun _ u _ => .ok (Moves.refl u)

theorem effective_moves (s : State) (o : Operand) : (effective s o).Moves s := by
  cases o with
  | ind a => exact (readPointer_moves s a).bind fun _ t _ => .ok (Moves.refl t)
  | indx z => exact (readPointer_moves s _).bind fun _ t _ => .ok (Moves.refl t)
  | indy z => exact (readPointer_moves s _).bind fun _ t _ => .ok (Moves.refl t)
  | _ => exact .ok (Moves.refl s)

theorem resolve_moves (s : State) (o : Operand) : (resolve s o).Moves s :=
  (effective_moves s o).bind fun _ t _ => .ok (Moves.setPc t _)

theorem readTarget_moves (s : State) (t : Target) : (readTarget s t).Moves s := by
  cases t with
  | mem ea => exact memRead_moves s ea
  | _ => exact .ok (Moves.refl s)

theorem writeTarget_moves (s : State) (t : Target) (v : Byte) : (writeTarget s t v).Moves s := by
  cases t with
  | acc => exact .ok (Moves.setA s v)
  | imm ea w => exact memWrite_moves s ea v
  | mem ea => exact memWrite_moves s ea v
  | none => exact .ok (Moves.refl s)

/-- An operation every answer of which is a state the start can move to. -/
def Operation.Moves (op : Operation) : Prop := ∀ t s, (op t s).Moves s

/-- The instruction cycle around such an operation (rule R150). -/
theorem cpuStep_moves {op : Operation} (h : op.Moves) (base : Nat) (pen : Bool) (o : Operand) (s : State) :
    (cpuStep base pen o op s).Moves s :=
  (resolve_moves s o).bind fun r t _ => (h r.target t).bind fun _ u _ => .ok (Moves.addCycles u _)

/-- Read the operand, then update the processor. -/
theorem Operation.Moves.read {k : Byte → State → State} (hk : ∀ v s, Machine.Moves s (k v s)) :
    Operation.Moves (fun t s => (readTarget s t).bind fun v s1 => .ok 0 (k v s1)) :=
  fun t s => (readTarget_moves s t).bind fun v u _ => .ok (hk v u)

theorem storeOp_moves (v : Byte) : Operation.Moves (storeOp v) :=
  fun t s => (writeTarget_moves s t v).bind fun _ u _ => .ok (Moves.refl u)

theorem shiftOp_moves {f : ShiftFn} {after : State → Byte → State} (h : ∀ s r, Machine.Moves s (after s r)) :
    Operation.Moves (shiftOp f after) :=
  fun t s => (readTarget_moves s t).bind fun _ u _ x w e =>
    (Moves.setC u _).trans (((writeTarget_moves (u.setC _) t _).bind fun _ w _ => .ok (h w _)) x w e)

theorem stepOp_moves {k : Byte} {after : State → Byte → State} (h : ∀ s r, Machine.Moves s (after s r)) :
    Operation.Moves (stepOp k after) :=
  fun t s => (readTarget_moves s t).bind fun _ u _ =>
    (writeTarget_moves u t _).bind fun _ w _ => .ok (h w _)

theorem branchOp_moves (cond : Cpu → Bool) : Operation.Moves (branchOp cond) := by
  intro t s
  unfold branchOp
  split_ifs
  · exact .ok (Moves.setPc s _)
  · exact .ok (Moves.setPc s _)
  · exact .ok (Moves.refl s)

end Sys2Proof.Machine
end

