-- ==== Sys2Proof/Laws/Dispatch.lean ====
section
/-! SUPPORT. Laws/Dispatch.lean: every arm of `exec` in one form, its row of rule R126 applied to its operation, and
from it what any instruction can change. -/

namespace Sys2Proof.Machine

/-- The columns of rule R126 that an arm of `exec` uses, and its operation. -/
structure Row where
  base : Nat
  pagePenalty : Bool
  op : Operation

/-- The row of an instruction (rule R126). -/
def rowOf : Instr → Row
  | .ldaIndx _ => ⟨6, false, opLda⟩
  | .ldaZp _ => ⟨3, false, opLda⟩
  | .ldaImm _ => ⟨2, false, opLda⟩
  | .ldaAbs _ => ⟨4, false, opLda⟩
  | .ldaIndy _ => ⟨5, true, opLda⟩
  | .ldaZpx _ => ⟨4, false, opLda⟩
  | .ldaAbsy _ => ⟨4, true, opLda⟩
  | .ldaAbsx _ => ⟨4, true, opLda⟩
  | .ldxImm _ => ⟨2, false, opLdx⟩
  | .ldxZp _ => ⟨3, false, opLdx⟩
  | .ldxAbs _ => ⟨4, false, opLdx⟩
  | .ldxZpy _ => ⟨4, false, opLdx⟩
  | .ldxAbsy _ => ⟨4, true, opLdx⟩
  | .ldyImm _ => ⟨2, false, opLdy⟩
  | .ldyZp _ => ⟨3, false, opLdy⟩
  | .ldyAbs _ => ⟨4, false, opLdy⟩
  | .ldyZpx _ => ⟨4, false, opLdy⟩
  | .ldyAbsx _ => ⟨4, true, opLdy⟩
  | .staIndx _ => ⟨6, false, opSta⟩
  | .staZp _ => ⟨3, false, opSta⟩
  | .staAbs _ => ⟨4, false, opSta⟩
  | .staIndy _ => ⟨6, false, opSta⟩
  | .staZpx _ => ⟨4, false, opSta⟩
  | .staAbsy _ => ⟨5, false, opSta⟩
  | .staAbsx _ => ⟨5, false, opSta⟩
  | .stxZp _ => ⟨3, false, opStx⟩
  | .stxAbs _ => ⟨4, false, opStx⟩
  | .stxZpy _ => ⟨4, false, opStx⟩
  | .styZp _ => ⟨3, false, opSty⟩
  | .styAbs _ => ⟨4, false, opSty⟩
  | .styZpx _ => ⟨4, false, opSty⟩
  | .tax => ⟨2, false, opTax⟩
  | .tay => ⟨2, false, opTay⟩
  | .txa => ⟨2, false, opTxa⟩
  | .tya => ⟨2, false, opTya⟩
  | .tsx => ⟨2, false, opTsx⟩
  | .txs => ⟨2, false, opTxs⟩
  | .adcIndx _ => ⟨6, false, opAdc⟩
  | .adcZp _ => ⟨3, false, opAdc⟩
  | .adcImm _ => ⟨2, false, opAdc⟩
  | .adcAbs _ => ⟨4, false, opAdc⟩
  | .adcIndy _ => ⟨5, true, opAdc⟩
  | .adcZpx _ => ⟨4, false, opAdc⟩
  | .adcAbsy _ => ⟨4, true, opAdc⟩
  | .adcAbsx _ => ⟨4, true, opAdc⟩
  | .sbcIndx _ => ⟨6, false, opSbc⟩
  | .sbcZp _ => ⟨3, false, opSbc⟩
  | .sbcImm _ => ⟨2, false, opSbc⟩
  | .sbcAbs _ => ⟨4, false, opSbc⟩
  | .sbcIndy _ => ⟨5, true, opSbc⟩
  | .sbcZpx _ => ⟨4, false, opSbc⟩
  | .sbcAbsy _ => ⟨4, true, opSbc⟩
  | .sbcAbsx _ => ⟨4, true, opSbc⟩
  | .andIndx _ => ⟨6, false, opAnd⟩
  | .andZp _ => ⟨3, false, opAnd⟩
  | .andImm _ => ⟨2, false, opAnd⟩
  | .andAbs _ => ⟨4, false, opAnd⟩
  | .andIndy _ => ⟨5, true, opAnd⟩
  | .andZpx _ => ⟨4, false, opAnd⟩
  | .andAbsy _ => ⟨4, true, opAnd⟩
  | .andAbsx _ => ⟨4, true, opAnd⟩
  | .oraIndx _ => ⟨6, false, opOra⟩
  | .oraZp _ => ⟨3, false, opOra⟩
  | .oraImm _ => ⟨2, false, opOra⟩
  | .oraAbs _ => ⟨4, false, opOra⟩
  | .oraIndy _ => ⟨5, true, opOra⟩
  | .oraZpx _ => ⟨4, false, opOra⟩
  | .oraAbsy _ => ⟨4, true, opOra⟩
  | .oraAbsx _ => ⟨4, true, opOra⟩
  | .eorIndx _ => ⟨6, false, opEor⟩
  | .eorZp _ => ⟨3, false, opEor⟩
  | .eorImm _ => ⟨2, false, opEor⟩
  | .eorAbs _ => ⟨4, false, opEor⟩
  | .eorIndy _ => ⟨5, true, opEor⟩
  | .eorZpx _ => ⟨4, false, opEor⟩
  | .eorAbsy _ => ⟨4, true, opEor⟩
  | .eorAbsx _ => ⟨4, true, opEor⟩
  | .cmpIndx _ => ⟨6, false, opCmp⟩
  | .cmpZp _ => ⟨3, false, opCmp⟩
  | .cmpImm _ => ⟨2, false, opCmp⟩
  | .cmpAbs _ => ⟨4, false, opCmp⟩
  | .cmpIndy _ => ⟨5, true, opCmp⟩
  | .cmpZpx _ => ⟨4, false, opCmp⟩
  | .cmpAbsy _ => ⟨4, true, opCmp⟩
  | .cmpAbsx _ => ⟨4, true, opCmp⟩
  | .cpxImm _ => ⟨2, false, opCpx⟩
  | .cpxZp _ => ⟨3, false, opCpx⟩
  | .cpxAbs _ => ⟨4, false, opCpx⟩
  | .cpyImm _ => ⟨2, false, opCpy⟩
  | .cpyZp _ => ⟨3, false, opCpy⟩
  | .cpyAbs _ => ⟨4, false, opCpy⟩
  | .bitZp _ => ⟨3, false, opBit⟩
  | .bitAbs _ => ⟨4, false, opBit⟩
  | .aslZp _ => ⟨5, false, opAsl⟩
  | .aslAcc => ⟨2, false, opAsl⟩
  | .aslAbs _ => ⟨6, false, opAsl⟩
  | .aslZpx _ => ⟨6, false, opAsl⟩
  | .aslAbsx _ => ⟨7, false, opAsl⟩
  | .lsrZp _ => ⟨5, false, opLsr⟩
  | .lsrAcc => ⟨2, false, opLsr⟩
  | .lsrAbs _ => ⟨6, false, opLsr⟩
  | .lsrZpx _ => ⟨6, false, opLsr⟩
  | .lsrAbsx _ => ⟨7, false, opLsr⟩
  | .rolZp _ => ⟨5, false, opRol⟩
  | .rolAcc => ⟨2, false, opRol⟩
  | .rolAbs _ => ⟨6, false, opRol⟩
  | .rolZpx _ => ⟨6, false, opRol⟩
  | .rolAbsx _ => ⟨7, false, opRol⟩
  | .rorZp _ => ⟨5, false, opRor⟩
  | .rorAcc => ⟨2, false, opRor⟩
  | .rorAbs _ => ⟨6, false, opRor⟩
  | .rorZpx _ => ⟨6, false, opRor⟩
  | .rorAbsx _ => ⟨7, false, opRor⟩
  | .incZp _ => ⟨5, false, opInc⟩
  | .incAbs _ => ⟨6, false, opInc⟩
  | .incZpx _ => ⟨6, false, opInc⟩
  | .incAbsx _ => ⟨7, false, opInc⟩
  | .decZp _ => ⟨5, false, opDec⟩
  | .decAbs _ => ⟨6, false, opDec⟩
  | .decZpx _ => ⟨6, false, opDec⟩
  | .decAbsx _ => ⟨7, false, opDec⟩
  | .inx => ⟨2, false, opInx⟩
  | .iny => ⟨2, false, opIny⟩
  | .dex => ⟨2, false, opDex⟩
  | .dey => ⟨2, false, opDey⟩
  | .bcc _ => ⟨2, false, opBcc⟩
  | .bcs _ => ⟨2, false, opBcs⟩
  | .beq _ => ⟨2, false, opBeq⟩
  | .bne _ => ⟨2, false, opBne⟩
  | .bmi _ => ⟨2, false, opBmi⟩
  | .bpl _ => ⟨2, false, opBpl⟩
  | .bvc _ => ⟨2, false, opBvc⟩
  | .bvs _ => ⟨2, false, opBvs⟩
  | .jmpAbs _ => ⟨3, false, opJmp⟩
  | .jmpInd _ => ⟨5, false, opJmp⟩
  | .jsrAbs _ => ⟨6, false, opJsr⟩
  | .rts => ⟨6, false, opRts⟩
  | .rti => ⟨6, false, opRti⟩
  | .brk => ⟨7, false, opBrk⟩
  | .pha => ⟨3, false, opPha⟩
  | .php => ⟨3, false, opPhp⟩
  | .pla => ⟨4, false, opPla⟩
  | .plp => ⟨4, false, opPlp⟩
  | .clc => ⟨2, false, opClc⟩
  | .sec => ⟨2, false, opSec⟩
  | .cli => ⟨2, false, opCli⟩
  | .sei => ⟨2, false, opSei⟩
  | .cld => ⟨2, false, opCld⟩
  | .sed => ⟨2, false, opSed⟩
  | .clv => ⟨2, false, opClv⟩
  | .nop => ⟨2, false, opNop⟩
  | .unopZp04 _ => ⟨3, false, opUnop⟩
  | .unopAbs0C _ => ⟨4, false, opUnop⟩
  | .unopZpx14 _ => ⟨4, false, opUnop⟩
  | .unopImp1A => ⟨2, false, opUnop⟩
  | .unopAbsx1C _ => ⟨4, true, opUnop⟩
  | .unopZpx34 _ => ⟨4, false, opUnop⟩
  | .unopImp3A => ⟨2, false, opUnop⟩
  | .unopAbsx3C _ => ⟨4, true, opUnop⟩
  | .unopZp44 _ => ⟨3, false, opUnop⟩
  | .unopZpx54 _ => ⟨4, false, opUnop⟩
  | .unopImp5A => ⟨2, false, opUnop⟩
  | .unopAbsx5C _ => ⟨4, true, opUnop⟩
  | .unopZp64 _ => ⟨3, false, opUnop⟩
  | .unopZpx74 _ => ⟨4, false, opUnop⟩
  | .unopImp7A => ⟨2, false, opUnop⟩
  | .unopAbsx7C _ => ⟨4, true, opUnop⟩
  | .unopImm80 _ => ⟨2, false, opUnop⟩
  | .unopImm82 _ => ⟨2, false, opUnop⟩
  | .unopImm89 _ => ⟨2, false, opUnop⟩
  | .unopImmC2 _ => ⟨2, false, opUnop⟩
  | .unopZpxD4 _ => ⟨4, false, opUnop⟩
  | .unopImpDA => ⟨2, false, opUnop⟩
  | .unopAbsxDC _ => ⟨4, true, opUnop⟩
  | .unopImmE2 _ => ⟨2, false, opUnop⟩
  | .unopZpxF4 _ => ⟨4, false, opUnop⟩
  | .unopImpFA => ⟨2, false, opUnop⟩
  | .unopAbsxFC _ => ⟨4, true, opUnop⟩
  | .laxIndx _ => ⟨6, false, opLax⟩
  | .laxZp _ => ⟨3, false, opLax⟩
  | .laxAbs _ => ⟨4, false, opLax⟩
  | .laxIndy _ => ⟨5, true, opLax⟩
  | .laxZpy _ => ⟨4, false, opLax⟩
  | .laxAbsy _ => ⟨4, true, opLax⟩
  | .saxIndx _ => ⟨6, false, opSax⟩
  | .saxZp _ => ⟨3, false, opSax⟩
  | .saxAbs _ => ⟨4, false, opSax⟩
  | .saxZpy _ => ⟨4, false, opSax⟩
  | .usbcImm _ => ⟨2, false, opUsbc⟩
  | .dcpIndx _ => ⟨8, false, opDcp⟩
  | .dcpZp _ => ⟨5, false, opDcp⟩
  | .dcpAbs _ => ⟨6, false, opDcp⟩
  | .dcpIndy _ => ⟨8, false, opDcp⟩
  | .dcpZpx _ => ⟨6, false, opDcp⟩
  | .dcpAbsy _ => ⟨7, false, opDcp⟩
  | .dcpAbsx _ => ⟨7, false, opDcp⟩
  | .isbIndx _ => ⟨8, false, opIsb⟩
  | .isbZp _ => ⟨5, false, opIsb⟩
  | .isbAbs _ => ⟨6, false, opIsb⟩
  | .isbIndy _ => ⟨8, false, opIsb⟩
  | .isbZpx _ => ⟨6, false, opIsb⟩
  | .isbAbsy _ => ⟨7, false, opIsb⟩
  | .isbAbsx _ => ⟨7, false, opIsb⟩
  | .sloIndx _ => ⟨8, false, opSlo⟩
  | .sloZp _ => ⟨5, false, opSlo⟩
  | .sloAbs _ => ⟨6, false, opSlo⟩
  | .sloIndy _ => ⟨8, false, opSlo⟩
  | .sloZpx _ => ⟨6, false, opSlo⟩
  | .sloAbsy _ => ⟨7, false, opSlo⟩
  | .sloAbsx _ => ⟨7, false, opSlo⟩
  | .rlaIndx _ => ⟨8, false, opRla⟩
  | .rlaZp _ => ⟨5, false, opRla⟩
  | .rlaAbs _ => ⟨6, false, opRla⟩
  | .rlaIndy _ => ⟨8, false, opRla⟩
  | .rlaZpx _ => ⟨6, false, opRla⟩
  | .rlaAbsy _ => ⟨7, false, opRla⟩
  | .rlaAbsx _ => ⟨7, false, opRla⟩
  | .sreIndx _ => ⟨8, false, opSre⟩
  | .sreZp _ => ⟨5, false, opSre⟩
  | .sreAbs _ => ⟨6, false, opSre⟩
  | .sreIndy _ => ⟨8, false, opSre⟩
  | .sreZpx _ => ⟨6, false, opSre⟩
  | .sreAbsy _ => ⟨7, false, opSre⟩
  | .sreAbsx _ => ⟨7, false, opSre⟩
  | .rraIndx _ => ⟨8, false, opRra⟩
  | .rraZp _ => ⟨5, false, opRra⟩
  | .rraAbs _ => ⟨6, false, opRra⟩
  | .rraIndy _ => ⟨8, false, opRra⟩
  | .rraZpx _ => ⟨6, false, opRra⟩
  | .rraAbsy _ => ⟨7, false, opRra⟩
  | .rraAbsx _ => ⟨7, false, opRra⟩

/-- Every arm of `exec` runs its row. -/
theorem exec_eq_run (i : Instr) (s : State) :
    exec i s = runInstr (rowOf i).base (rowOf i).pagePenalty i.operand (rowOf i).op s := by
  cases i <;> rfl

theorem opLda_moves : Operation.Moves opLda :=
  Operation.Moves.read fun v s => (Moves.setA s v).trans (Moves.setZN _ v)

theorem opLdx_moves : Operation.Moves opLdx :=
  Operation.Moves.read fun v s => (Moves.setX s v).trans (Moves.setZN _ v)

theorem opLdy_moves : Operation.Moves opLdy :=
  Operation.Moves.read fun v s => (Moves.setY s v).trans (Moves.setZN _ v)

theorem opSta_moves : Operation.Moves opSta :=
  fun t s => storeOp_moves _ t s

theorem opStx_moves : Operation.Moves opStx :=
  fun t s => storeOp_moves _ t s

theorem opSty_moves : Operation.Moves opSty :=
  fun t s => storeOp_moves _ t s

theorem opTax_moves : Operation.Moves opTax :=
  fun _ s => .ok ((Moves.setX s _).trans (Moves.setZN _ _))

theorem opTay_moves : Operation.Moves opTay :=
  fun _ s => .ok ((Moves.setY s _).trans (Moves.setZN _ _))

theorem opTxa_moves : Operation.Moves opTxa :=
  fun _ s => .ok ((Moves.setA s _).trans (Moves.setZN _ _))

theorem opTya_moves : Operation.Moves opTya :=
  fun _ s => .ok ((Moves.setA s _).trans (Moves.setZN _ _))

theorem opTsx_moves : Operation.Moves opTsx :=
  fun _ s => .ok ((Moves.setX s _).trans (Moves.setZN _ _))

theorem opTxs_moves : Operation.Moves opTxs :=
  fun _ s => .ok (Moves.setSp s _)

theorem opAdc_moves : Operation.Moves opAdc :=
  Operation.Moves.read fun v s => Moves.addWithCarry s v

theorem opSbc_moves : Operation.Moves opSbc :=
  Operation.Moves.read fun _ s => Moves.addWithCarry s _

theorem opAnd_moves : Operation.Moves opAnd :=
  Operation.Moves.read fun _ s => (Moves.setA s _).trans (Moves.setZN _ _)

theorem opOra_moves : Operation.Moves opOra :=
  Operation.Moves.read fun _ s => (Moves.setA s _).trans (Moves.setZN _ _)

theorem opEor_moves : Operation.Moves opEor :=
  Operation.Moves.read fun _ s => (Moves.setA s _).trans (Moves.setZN _ _)

theorem opCmp_moves : Operation.Moves opCmp :=
  Operation.Moves.read fun v s => Moves.compare s _ v

theorem opCpx_moves : Operation.Moves opCpx :=
  Operation.Moves.read fun v s => Moves.compare s _ v

theorem opCpy_moves : Operation.Moves opCpy :=
  Operation.Moves.read fun v s => Moves.compare s _ v

theorem opBit_moves : Operation.Moves opBit :=
  Operation.Moves.read fun v s => Moves.bitTest s v

theorem opAsl_moves : Operation.Moves opAsl :=
  shiftOp_moves Moves.setZN

theorem opLsr_moves : Operation.Moves opLsr :=
  shiftOp_moves Moves.setZN

theorem opRol_moves : Operation.Moves opRol :=
  shiftOp_moves Moves.setZN

theorem opRor_moves : Operation.Moves opRor :=
  shiftOp_moves Moves.setZN

theorem opInc_moves : Operation.Moves opInc :=
  stepOp_moves Moves.setZN

theorem opDec_moves : Operation.Moves opDec :=
  stepOp_moves Moves.setZN

theorem opInx_moves : Operation.Moves opInx :=
  fun _ s => .ok ((Moves.setX s _).trans (Moves.setZN _ _))

theorem opIny_moves : Operation.Moves opIny :=
  fun _ s => .ok ((Moves.setY s _).trans (Moves.setZN _ _))

theorem opDex_moves : Operation.Moves opDex :=
  fun _ s => .ok ((Moves.setX s _).trans (Moves.setZN _ _))

theorem opDey_moves : Operation.Moves opDey :=
  fun _ s => .ok ((Moves.setY s _).trans (Moves.setZN _ _))

theorem opBcc_moves : Operation.Moves opBcc :=
  branchOp_moves _

theorem opBcs_moves : Operation.Moves opBcs :=
  branchOp_moves _

theorem opBeq_moves : Operation.Moves opBeq :=
  branchOp_moves _

theorem opBne_moves : Operation.Moves opBne :=
  branchOp_moves _

theorem opBmi_moves : Operation.Moves opBmi :=
  branchOp_moves _

theorem opBpl_moves : Operation.Moves opBpl :=
  branchOp_moves _

theorem opBvc_moves : Operation.Moves opBvc :=
  branchOp_moves _

theorem opBvs_moves : Operation.Moves opBvs :=
  branchOp_moves _

theorem opJmp_moves : Operation.Moves opJmp :=
  fun _ s => .ok (Moves.setPc s _)

theorem opJsr_moves : Operation.Moves opJsr :=
  fun _ s => (push16_moves s _).bind fun _ u _ => .ok (Moves.setPc u _)

theorem opRts_moves : Operation.Moves opRts :=
  fun _ s => (pull16_moves s).bind fun _ u _ => .ok (Moves.setPc u _)

theorem opRti_moves : Operation.Moves opRti :=
  fun _ s => (returnFromException_moves s).bind fun _ u _ => .ok (Moves.refl u)

theorem opBrk_moves : Operation.Moves opBrk :=
  fun _ s => (takeException_moves s _ _ _).bind fun _ u _ => .ok (Moves.refl u)

theorem opPha_moves : Operation.Moves opPha :=
  fun _ s => (push_moves s _).bind fun _ u _ => .ok (Moves.refl u)

theorem opPhp_moves : Operation.Moves opPhp :=
  fun _ s => (push_moves s _).bind fun _ u _ => .ok (Moves.refl u)

theorem opPla_moves : Operation.Moves opPla :=
  fun _ s => (pull_moves s).bind fun v u _ => .ok ((Moves.setA u v).trans (Moves.setZN _ v))

theorem opPlp_moves : Operation.Moves opPlp :=
  fun _ s => (pull_moves s).bind fun p u _ => .ok (Moves.unpackP u p)

theorem opClc_moves : Operation.Moves opClc :=
  fun _ s => .ok (Moves.setC s _)

theorem opSec_moves : Operation.Moves opSec :=
  fun _ s => .ok (Moves.setC s _)

theorem opCli_moves : Operation.Moves opCli :=
  fun _ s => .ok (Moves.setI s _)

theorem opSei_moves : Operation.Moves opSei :=
  fun _ s => .ok (Moves.setI s _)

theorem opCld_moves : Operation.Moves opCld :=
  fun _ s => .ok (Moves.setD s _)

theorem opSed_moves : Operation.Moves opSed :=
  fun _ s => .ok (Moves.setD s _)

theorem opClv_moves : Operation.Moves opClv :=
  fun _ s => .ok (Moves.setV s _)

theorem opNop_moves : Operation.Moves opNop :=
  fun _ s => .ok (Moves.refl s)

theorem opUnop_moves : Operation.Moves opUnop :=
  fun _ s => .ok (Moves.refl s)

theorem opLax_moves : Operation.Moves opLax :=
  Operation.Moves.read fun v s => ((Moves.setA s v).trans (Moves.setX _ v)).trans (Moves.setZN _ v)

theorem opSax_moves : Operation.Moves opSax :=
  fun t s => storeOp_moves _ t s

theorem opUsbc_moves : Operation.Moves opUsbc :=
  Operation.Moves.read fun _ s => Moves.addWithCarry s _

theorem opDcp_moves : Operation.Moves opDcp :=
  stepOp_moves fun s r => Moves.compare s _ r

theorem opIsb_moves : Operation.Moves opIsb :=
  stepOp_moves fun s _ => Moves.addWithCarry s _

theorem opSlo_moves : Operation.Moves opSlo :=
  shiftOp_moves fun s _ => (Moves.setA s _).trans (Moves.setZN _ _)

theorem opRla_moves : Operation.Moves opRla :=
  shiftOp_moves fun s _ => (Moves.setA s _).trans (Moves.setZN _ _)

theorem opSre_moves : Operation.Moves opSre :=
  shiftOp_moves fun s _ => (Moves.setA s _).trans (Moves.setZN _ _)

theorem opRra_moves : Operation.Moves opRra :=
  shiftOp_moves Moves.addWithCarry

/-- Every operation only moves. -/
theorem rowOf_moves (i : Instr) : (rowOf i).op.Moves := by
  cases i
  case ldaIndx => exact opLda_moves
  case ldaZp => exact opLda_moves
  case ldaImm => exact opLda_moves
  case ldaAbs => exact opLda_moves
  case ldaIndy => exact opLda_moves
  case ldaZpx => exact opLda_moves
  case ldaAbsy => exact opLda_moves
  case ldaAbsx => exact opLda_moves
  case ldxImm => exact opLdx_moves
  case ldxZp => exact opLdx_moves
  case ldxAbs => exact opLdx_moves
  case ldxZpy => exact opLdx_moves
  case ldxAbsy => exact opLdx_moves
  case ldyImm => exact opLdy_moves
  case ldyZp => exact opLdy_moves
  case ldyAbs => exact opLdy_moves
  case ldyZpx => exact opLdy_moves
  case ldyAbsx => exact opLdy_moves
  case staIndx => exact opSta_moves
  case staZp => exact opSta_moves
  case staAbs => exact opSta_moves
  case staIndy => exact opSta_moves
  case staZpx => exact opSta_moves
  case staAbsy => exact opSta_moves
  case staAbsx => exact opSta_moves
  case stxZp => exact opStx_moves
  case stxAbs => exact opStx_moves
  case stxZpy => exact opStx_moves
  case styZp => exact opSty_moves
  case styAbs => exact opSty_moves
  case styZpx => exact opSty_moves
  case tax => exact opTax_moves
  case tay => exact opTay_moves
  case txa => exact opTxa_moves
  case tya => exact opTya_moves
  case tsx => exact opTsx_moves
  case txs => exact opTxs_moves
  case adcIndx => exact opAdc_moves
  case adcZp => exact opAdc_moves
  case adcImm => exact opAdc_moves
  case adcAbs => exact opAdc_moves
  case adcIndy => exact opAdc_moves
  case adcZpx => exact opAdc_moves
  case adcAbsy => exact opAdc_moves
  case adcAbsx => exact opAdc_moves
  case sbcIndx => exact opSbc_moves
  case sbcZp => exact opSbc_moves
  case sbcImm => exact opSbc_moves
  case sbcAbs => exact opSbc_moves
  case sbcIndy => exact opSbc_moves
  case sbcZpx => exact opSbc_moves
  case sbcAbsy => exact opSbc_moves
  case sbcAbsx => exact opSbc_moves
  case andIndx => exact opAnd_moves
  case andZp => exact opAnd_moves
  case andImm => exact opAnd_moves
  case andAbs => exact opAnd_moves
  case andIndy => exact opAnd_moves
  case andZpx => exact opAnd_moves
  case andAbsy => exact opAnd_moves
  case andAbsx => exact opAnd_moves
  case oraIndx => exact opOra_moves
  case oraZp => exact opOra_moves
  case oraImm => exact opOra_moves
  case oraAbs => exact opOra_moves
  case oraIndy => exact opOra_moves
  case oraZpx => exact opOra_moves
  case oraAbsy => exact opOra_moves
  case oraAbsx => exact opOra_moves
  case eorIndx => exact opEor_moves
  case eorZp => exact opEor_moves
  case eorImm => exact opEor_moves
  case eorAbs => exact opEor_moves
  case eorIndy => exact opEor_moves
  case eorZpx => exact opEor_moves
  case eorAbsy => exact opEor_moves
  case eorAbsx => exact opEor_moves
  case cmpIndx => exact opCmp_moves
  case cmpZp => exact opCmp_moves
  case cmpImm => exact opCmp_moves
  case cmpAbs => exact opCmp_moves
  case cmpIndy => exact opCmp_moves
  case cmpZpx => exact opCmp_moves
  case cmpAbsy => exact opCmp_moves
  case cmpAbsx => exact opCmp_moves
  case cpxImm => exact opCpx_moves
  case cpxZp => exact opCpx_moves
  case cpxAbs => exact opCpx_moves
  case cpyImm => exact opCpy_moves
  case cpyZp => exact opCpy_moves
  case cpyAbs => exact opCpy_moves
  case bitZp => exact opBit_moves
  case bitAbs => exact opBit_moves
  case aslZp => exact opAsl_moves
  case aslAcc => exact opAsl_moves
  case aslAbs => exact opAsl_moves
  case aslZpx => exact opAsl_moves
  case aslAbsx => exact opAsl_moves
  case lsrZp => exact opLsr_moves
  case lsrAcc => exact opLsr_moves
  case lsrAbs => exact opLsr_moves
  case lsrZpx => exact opLsr_moves
  case lsrAbsx => exact opLsr_moves
  case rolZp => exact opRol_moves
  case rolAcc => exact opRol_moves
  case rolAbs => exact opRol_moves
  case rolZpx => exact opRol_moves
  case rolAbsx => exact opRol_moves
  case rorZp => exact opRor_moves
  case rorAcc => exact opRor_moves
  case rorAbs => exact opRor_moves
  case rorZpx => exact opRor_moves
  case rorAbsx => exact opRor_moves
  case incZp => exact opInc_moves
  case incAbs => exact opInc_moves
  case incZpx => exact opInc_moves
  case incAbsx => exact opInc_moves
  case decZp => exact opDec_moves
  case decAbs => exact opDec_moves
  case decZpx => exact opDec_moves
  case decAbsx => exact opDec_moves
  case inx => exact opInx_moves
  case iny => exact opIny_moves
  case dex => exact opDex_moves
  case dey => exact opDey_moves
  case bcc => exact opBcc_moves
  case bcs => exact opBcs_moves
  case beq => exact opBeq_moves
  case bne => exact opBne_moves
  case bmi => exact opBmi_moves
  case bpl => exact opBpl_moves
  case bvc => exact opBvc_moves
  case bvs => exact opBvs_moves
  case jmpAbs => exact opJmp_moves
  case jmpInd => exact opJmp_moves
  case jsrAbs => exact opJsr_moves
  case rts => exact opRts_moves
  case rti => exact opRti_moves
  case brk => exact opBrk_moves
  case pha => exact opPha_moves
  case php => exact opPhp_moves
  case pla => exact opPla_moves
  case plp => exact opPlp_moves
  case clc => exact opClc_moves
  case sec => exact opSec_moves
  case cli => exact opCli_moves
  case sei => exact opSei_moves
  case cld => exact opCld_moves
  case sed => exact opSed_moves
  case clv => exact opClv_moves
  case nop => exact opNop_moves
  case unopZp04 => exact opUnop_moves
  case unopAbs0C => exact opUnop_moves
  case unopZpx14 => exact opUnop_moves
  case unopImp1A => exact opUnop_moves
  case unopAbsx1C => exact opUnop_moves
  case unopZpx34 => exact opUnop_moves
  case unopImp3A => exact opUnop_moves
  case unopAbsx3C => exact opUnop_moves
  case unopZp44 => exact opUnop_moves
  case unopZpx54 => exact opUnop_moves
  case unopImp5A => exact opUnop_moves
  case unopAbsx5C => exact opUnop_moves
  case unopZp64 => exact opUnop_moves
  case unopZpx74 => exact opUnop_moves
  case unopImp7A => exact opUnop_moves
  case unopAbsx7C => exact opUnop_moves
  case unopImm80 => exact opUnop_moves
  case unopImm82 => exact opUnop_moves
  case unopImm89 => exact opUnop_moves
  case unopImmC2 => exact opUnop_moves
  case unopZpxD4 => exact opUnop_moves
  case unopImpDA => exact opUnop_moves
  case unopAbsxDC => exact opUnop_moves
  case unopImmE2 => exact opUnop_moves
  case unopZpxF4 => exact opUnop_moves
  case unopImpFA => exact opUnop_moves
  case unopAbsxFC => exact opUnop_moves
  case laxIndx => exact opLax_moves
  case laxZp => exact opLax_moves
  case laxAbs => exact opLax_moves
  case laxIndy => exact opLax_moves
  case laxZpy => exact opLax_moves
  case laxAbsy => exact opLax_moves
  case saxIndx => exact opSax_moves
  case saxZp => exact opSax_moves
  case saxAbs => exact opSax_moves
  case saxZpy => exact opSax_moves
  case usbcImm => exact opUsbc_moves
  case dcpIndx => exact opDcp_moves
  case dcpZp => exact opDcp_moves
  case dcpAbs => exact opDcp_moves
  case dcpIndy => exact opDcp_moves
  case dcpZpx => exact opDcp_moves
  case dcpAbsy => exact opDcp_moves
  case dcpAbsx => exact opDcp_moves
  case isbIndx => exact opIsb_moves
  case isbZp => exact opIsb_moves
  case isbAbs => exact opIsb_moves
  case isbIndy => exact opIsb_moves
  case isbZpx => exact opIsb_moves
  case isbAbsy => exact opIsb_moves
  case isbAbsx => exact opIsb_moves
  case sloIndx => exact opSlo_moves
  case sloZp => exact opSlo_moves
  case sloAbs => exact opSlo_moves
  case sloIndy => exact opSlo_moves
  case sloZpx => exact opSlo_moves
  case sloAbsy => exact opSlo_moves
  case sloAbsx => exact opSlo_moves
  case rlaIndx => exact opRla_moves
  case rlaZp => exact opRla_moves
  case rlaAbs => exact opRla_moves
  case rlaIndy => exact opRla_moves
  case rlaZpx => exact opRla_moves
  case rlaAbsy => exact opRla_moves
  case rlaAbsx => exact opRla_moves
  case sreIndx => exact opSre_moves
  case sreZp => exact opSre_moves
  case sreAbs => exact opSre_moves
  case sreIndy => exact opSre_moves
  case sreZpx => exact opSre_moves
  case sreAbsy => exact opSre_moves
  case sreAbsx => exact opSre_moves
  case rraIndx => exact opRra_moves
  case rraZp => exact opRra_moves
  case rraAbs => exact opRra_moves
  case rraIndy => exact opRra_moves
  case rraZpx => exact opRra_moves
  case rraAbsy => exact opRra_moves
  case rraAbsx => exact opRra_moves

/-- Everything an instruction can change outside the processor's own registers, said once. -/
theorem exec_moves {i : Instr} {s t : State} (h : exec i s = .next t) : Moves s t := by
  rw [exec_eq_run, runInstr] at h
  obtain ⟨a, e⟩ := Res.outcome_eq_next.1 h
  exact cpuStep_moves (rowOf_moves i) _ _ _ s a t e

/-- No instruction is refused. -/
theorem exec_ne_refused (i : Instr) (s : State) (r : Refusal) : exec i s ≠ .refused r := by
  rw [exec_eq_run, runInstr]
  exact Res.outcome_ne_refused _ r

end Sys2Proof.Machine
end

