-- ==== Sys2Proof/Laws/Driver.lean ====
section
/-! SUPPORT. Laws/Driver.lean: what fetching an instruction can do. -/

namespace Sys2Proof.Machine

/-- The fetch only `Moves`: its reads keep everything but what the registers they touch change. -/
theorem fetchInstr_moves (s : State) : (fetchInstr s).Moves s := by
  unfold fetchInstr
  refine (memRead_moves s _).bind fun op t _ => ?_
  split
  · exact .fatal
  · exact .ok (Moves.refl t)
  · exact (memRead_moves t _).faultIn.bind fun _ u _ => .ok (Moves.refl u)
  · exact (memRead16_moves t _).bind fun _ u _ => .ok (Moves.refl u)

/-- A fetch whose byte after the opcode cannot be read is fatal there, with PC past the instruction for an immediate
byte and at the opcode for any other (rules R153, R495). -/
theorem fetchInstr_byte_fatal {s t u : State} {op : Byte} {mk : Byte → Instr} {f : Fatal}
    (h : memRead s s.cpu.pc = .ok op t) (hf : formOf s.params.unofficial op = some (.byte mk))
    (hr : memRead t (s.cpu.pc + 1) = .fatal f u) :
    fetchInstr s = .fatal f (u.setPc (operandReadPc s.cpu.pc (mk 0x00).operand)) := by
  rw [fetchInstr, h, Res.bind_ok, hf]
  simp only [hr, Res.faultIn_fatal, Res.bind_fatal]

end Sys2Proof.Machine
end

