-- ==== Sys2Proof/Laws/PerInstr.lean ====
section
/-! SUPPORT. Laws/PerInstr.lean: the family of facts proved constructor by constructor. -/

namespace Sys2Proof.Laws.Length

/-- The encoding has the length the addressing mode fixes (rules R120, R126), its opcode byte is mapped to a form that
takes exactly the bytes after it, and it is mapped by default exactly when the row is official (rules R127, R320). -/
def Statement (i : Instr) : Prop :=
  (encode i).length = i.operand.length ∧
    (formOf .nestest ((encode i).headD 0)).map Form.operandBytes = some (i.operand.length - 1) ∧
    (formOf .none ((encode i).headD 0)).isSome = !i.isUnofficial

/-- From the opcode byte. -/
theorem of (op : Byte) {rest : List Byte} {i : Instr} (h : encode i = op :: rest)
    (h1 : rest.length + 1 = i.operand.length)
    (h2 : (formOf .nestest op).map Form.operandBytes = some (i.operand.length - 1))
    (h3 : (formOf .none op).isSome = !i.isUnofficial) : Statement i := by
  unfold Statement
  rw [h]
  exact ⟨h1, h2, h3⟩

theorem ldaIndx (z : Byte) : Statement (.ldaIndx z) := of 0xA1 rfl rfl rfl rfl
theorem ldaZp (z : Byte) : Statement (.ldaZp z) := of 0xA5 rfl rfl rfl rfl
theorem ldaImm (v : Byte) : Statement (.ldaImm v) := of 0xA9 rfl rfl rfl rfl
theorem ldaAbs (a : Word) : Statement (.ldaAbs a) := of 0xAD rfl rfl rfl rfl
theorem ldaIndy (z : Byte) : Statement (.ldaIndy z) := of 0xB1 rfl rfl rfl rfl
theorem ldaZpx (z : Byte) : Statement (.ldaZpx z) := of 0xB5 rfl rfl rfl rfl
theorem ldaAbsy (a : Word) : Statement (.ldaAbsy a) := of 0xB9 rfl rfl rfl rfl
theorem ldaAbsx (a : Word) : Statement (.ldaAbsx a) := of 0xBD rfl rfl rfl rfl
theorem ldxImm (v : Byte) : Statement (.ldxImm v) := of 0xA2 rfl rfl rfl rfl
theorem ldxZp (z : Byte) : Statement (.ldxZp z) := of 0xA6 rfl rfl rfl rfl
theorem ldxAbs (a : Word) : Statement (.ldxAbs a) := of 0xAE rfl rfl rfl rfl
theorem ldxZpy (z : Byte) : Statement (.ldxZpy z) := of 0xB6 rfl rfl rfl rfl
theorem ldxAbsy (a : Word) : Statement (.ldxAbsy a) := of 0xBE rfl rfl rfl rfl
theorem ldyImm (v : Byte) : Statement (.ldyImm v) := of 0xA0 rfl rfl rfl rfl
theorem ldyZp (z : Byte) : Statement (.ldyZp z) := of 0xA4 rfl rfl rfl rfl
theorem ldyAbs (a : Word) : Statement (.ldyAbs a) := of 0xAC rfl rfl rfl rfl
theorem ldyZpx (z : Byte) : Statement (.ldyZpx z) := of 0xB4 rfl rfl rfl rfl
theorem ldyAbsx (a : Word) : Statement (.ldyAbsx a) := of 0xBC rfl rfl rfl rfl
theorem staIndx (z : Byte) : Statement (.staIndx z) := of 0x81 rfl rfl rfl rfl
theorem staZp (z : Byte) : Statement (.staZp z) := of 0x85 rfl rfl rfl rfl
theorem staAbs (a : Word) : Statement (.staAbs a) := of 0x8D rfl rfl rfl rfl
theorem staIndy (z : Byte) : Statement (.staIndy z) := of 0x91 rfl rfl rfl rfl
theorem staZpx (z : Byte) : Statement (.staZpx z) := of 0x95 rfl rfl rfl rfl
theorem staAbsy (a : Word) : Statement (.staAbsy a) := of 0x99 rfl rfl rfl rfl
theorem staAbsx (a : Word) : Statement (.staAbsx a) := of 0x9D rfl rfl rfl rfl
theorem stxZp (z : Byte) : Statement (.stxZp z) := of 0x86 rfl rfl rfl rfl
theorem stxAbs (a : Word) : Statement (.stxAbs a) := of 0x8E rfl rfl rfl rfl
theorem stxZpy (z : Byte) : Statement (.stxZpy z) := of 0x96 rfl rfl rfl rfl
theorem styZp (z : Byte) : Statement (.styZp z) := of 0x84 rfl rfl rfl rfl
theorem styAbs (a : Word) : Statement (.styAbs a) := of 0x8C rfl rfl rfl rfl
theorem styZpx (z : Byte) : Statement (.styZpx z) := of 0x94 rfl rfl rfl rfl
theorem tax : Statement .tax := of 0xAA rfl rfl rfl rfl
theorem tay : Statement .tay := of 0xA8 rfl rfl rfl rfl
theorem txa : Statement .txa := of 0x8A rfl rfl rfl rfl
theorem tya : Statement .tya := of 0x98 rfl rfl rfl rfl
theorem tsx : Statement .tsx := of 0xBA rfl rfl rfl rfl
theorem txs : Statement .txs := of 0x9A rfl rfl rfl rfl
theorem adcIndx (z : Byte) : Statement (.adcIndx z) := of 0x61 rfl rfl rfl rfl
theorem adcZp (z : Byte) : Statement (.adcZp z) := of 0x65 rfl rfl rfl rfl
theorem adcImm (v : Byte) : Statement (.adcImm v) := of 0x69 rfl rfl rfl rfl
theorem adcAbs (a : Word) : Statement (.adcAbs a) := of 0x6D rfl rfl rfl rfl
theorem adcIndy (z : Byte) : Statement (.adcIndy z) := of 0x71 rfl rfl rfl rfl
theorem adcZpx (z : Byte) : Statement (.adcZpx z) := of 0x75 rfl rfl rfl rfl
theorem adcAbsy (a : Word) : Statement (.adcAbsy a) := of 0x79 rfl rfl rfl rfl
theorem adcAbsx (a : Word) : Statement (.adcAbsx a) := of 0x7D rfl rfl rfl rfl
theorem sbcIndx (z : Byte) : Statement (.sbcIndx z) := of 0xE1 rfl rfl rfl rfl
theorem sbcZp (z : Byte) : Statement (.sbcZp z) := of 0xE5 rfl rfl rfl rfl
theorem sbcImm (v : Byte) : Statement (.sbcImm v) := of 0xE9 rfl rfl rfl rfl
theorem sbcAbs (a : Word) : Statement (.sbcAbs a) := of 0xED rfl rfl rfl rfl
theorem sbcIndy (z : Byte) : Statement (.sbcIndy z) := of 0xF1 rfl rfl rfl rfl
theorem sbcZpx (z : Byte) : Statement (.sbcZpx z) := of 0xF5 rfl rfl rfl rfl
theorem sbcAbsy (a : Word) : Statement (.sbcAbsy a) := of 0xF9 rfl rfl rfl rfl
theorem sbcAbsx (a : Word) : Statement (.sbcAbsx a) := of 0xFD rfl rfl rfl rfl
theorem andIndx (z : Byte) : Statement (.andIndx z) := of 0x21 rfl rfl rfl rfl
theorem andZp (z : Byte) : Statement (.andZp z) := of 0x25 rfl rfl rfl rfl
theorem andImm (v : Byte) : Statement (.andImm v) := of 0x29 rfl rfl rfl rfl
theorem andAbs (a : Word) : Statement (.andAbs a) := of 0x2D rfl rfl rfl rfl
theorem andIndy (z : Byte) : Statement (.andIndy z) := of 0x31 rfl rfl rfl rfl
theorem andZpx (z : Byte) : Statement (.andZpx z) := of 0x35 rfl rfl rfl rfl
theorem andAbsy (a : Word) : Statement (.andAbsy a) := of 0x39 rfl rfl rfl rfl
theorem andAbsx (a : Word) : Statement (.andAbsx a) := of 0x3D rfl rfl rfl rfl
theorem oraIndx (z : Byte) : Statement (.oraIndx z) := of 0x01 rfl rfl rfl rfl
theorem oraZp (z : Byte) : Statement (.oraZp z) := of 0x05 rfl rfl rfl rfl
theorem oraImm (v : Byte) : Statement (.oraImm v) := of 0x09 rfl rfl rfl rfl
theorem oraAbs (a : Word) : Statement (.oraAbs a) := of 0x0D rfl rfl rfl rfl
theorem oraIndy (z : Byte) : Statement (.oraIndy z) := of 0x11 rfl rfl rfl rfl
theorem oraZpx (z : Byte) : Statement (.oraZpx z) := of 0x15 rfl rfl rfl rfl
theorem oraAbsy (a : Word) : Statement (.oraAbsy a) := of 0x19 rfl rfl rfl rfl
theorem oraAbsx (a : Word) : Statement (.oraAbsx a) := of 0x1D rfl rfl rfl rfl
theorem eorIndx (z : Byte) : Statement (.eorIndx z) := of 0x41 rfl rfl rfl rfl
theorem eorZp (z : Byte) : Statement (.eorZp z) := of 0x45 rfl rfl rfl rfl
theorem eorImm (v : Byte) : Statement (.eorImm v) := of 0x49 rfl rfl rfl rfl
theorem eorAbs (a : Word) : Statement (.eorAbs a) := of 0x4D rfl rfl rfl rfl
theorem eorIndy (z : Byte) : Statement (.eorIndy z) := of 0x51 rfl rfl rfl rfl
theorem eorZpx (z : Byte) : Statement (.eorZpx z) := of 0x55 rfl rfl rfl rfl
theorem eorAbsy (a : Word) : Statement (.eorAbsy a) := of 0x59 rfl rfl rfl rfl
theorem eorAbsx (a : Word) : Statement (.eorAbsx a) := of 0x5D rfl rfl rfl rfl
theorem cmpIndx (z : Byte) : Statement (.cmpIndx z) := of 0xC1 rfl rfl rfl rfl
theorem cmpZp (z : Byte) : Statement (.cmpZp z) := of 0xC5 rfl rfl rfl rfl
theorem cmpImm (v : Byte) : Statement (.cmpImm v) := of 0xC9 rfl rfl rfl rfl
theorem cmpAbs (a : Word) : Statement (.cmpAbs a) := of 0xCD rfl rfl rfl rfl
theorem cmpIndy (z : Byte) : Statement (.cmpIndy z) := of 0xD1 rfl rfl rfl rfl
theorem cmpZpx (z : Byte) : Statement (.cmpZpx z) := of 0xD5 rfl rfl rfl rfl
theorem cmpAbsy (a : Word) : Statement (.cmpAbsy a) := of 0xD9 rfl rfl rfl rfl
theorem cmpAbsx (a : Word) : Statement (.cmpAbsx a) := of 0xDD rfl rfl rfl rfl
theorem cpxImm (v : Byte) : Statement (.cpxImm v) := of 0xE0 rfl rfl rfl rfl
theorem cpxZp (z : Byte) : Statement (.cpxZp z) := of 0xE4 rfl rfl rfl rfl
theorem cpxAbs (a : Word) : Statement (.cpxAbs a) := of 0xEC rfl rfl rfl rfl
theorem cpyImm (v : Byte) : Statement (.cpyImm v) := of 0xC0 rfl rfl rfl rfl
theorem cpyZp (z : Byte) : Statement (.cpyZp z) := of 0xC4 rfl rfl rfl rfl
theorem cpyAbs (a : Word) : Statement (.cpyAbs a) := of 0xCC rfl rfl rfl rfl
theorem bitZp (z : Byte) : Statement (.bitZp z) := of 0x24 rfl rfl rfl rfl
theorem bitAbs (a : Word) : Statement (.bitAbs a) := of 0x2C rfl rfl rfl rfl
theorem aslZp (z : Byte) : Statement (.aslZp z) := of 0x06 rfl rfl rfl rfl
theorem aslAcc : Statement .aslAcc := of 0x0A rfl rfl rfl rfl
theorem aslAbs (a : Word) : Statement (.aslAbs a) := of 0x0E rfl rfl rfl rfl
theorem aslZpx (z : Byte) : Statement (.aslZpx z) := of 0x16 rfl rfl rfl rfl
theorem aslAbsx (a : Word) : Statement (.aslAbsx a) := of 0x1E rfl rfl rfl rfl
theorem lsrZp (z : Byte) : Statement (.lsrZp z) := of 0x46 rfl rfl rfl rfl
theorem lsrAcc : Statement .lsrAcc := of 0x4A rfl rfl rfl rfl
theorem lsrAbs (a : Word) : Statement (.lsrAbs a) := of 0x4E rfl rfl rfl rfl
theorem lsrZpx (z : Byte) : Statement (.lsrZpx z) := of 0x56 rfl rfl rfl rfl
theorem lsrAbsx (a : Word) : Statement (.lsrAbsx a) := of 0x5E rfl rfl rfl rfl
theorem rolZp (z : Byte) : Statement (.rolZp z) := of 0x26 rfl rfl rfl rfl
theorem rolAcc : Statement .rolAcc := of 0x2A rfl rfl rfl rfl
theorem rolAbs (a : Word) : Statement (.rolAbs a) := of 0x2E rfl rfl rfl rfl
theorem rolZpx (z : Byte) : Statement (.rolZpx z) := of 0x36 rfl rfl rfl rfl
theorem rolAbsx (a : Word) : Statement (.rolAbsx a) := of 0x3E rfl rfl rfl rfl
theorem rorZp (z : Byte) : Statement (.rorZp z) := of 0x66 rfl rfl rfl rfl
theorem rorAcc : Statement .rorAcc := of 0x6A rfl rfl rfl rfl
theorem rorAbs (a : Word) : Statement (.rorAbs a) := of 0x6E rfl rfl rfl rfl
theorem rorZpx (z : Byte) : Statement (.rorZpx z) := of 0x76 rfl rfl rfl rfl
theorem rorAbsx (a : Word) : Statement (.rorAbsx a) := of 0x7E rfl rfl rfl rfl
theorem incZp (z : Byte) : Statement (.incZp z) := of 0xE6 rfl rfl rfl rfl
theorem incAbs (a : Word) : Statement (.incAbs a) := of 0xEE rfl rfl rfl rfl
theorem incZpx (z : Byte) : Statement (.incZpx z) := of 0xF6 rfl rfl rfl rfl
theorem incAbsx (a : Word) : Statement (.incAbsx a) := of 0xFE rfl rfl rfl rfl
theorem decZp (z : Byte) : Statement (.decZp z) := of 0xC6 rfl rfl rfl rfl
theorem decAbs (a : Word) : Statement (.decAbs a) := of 0xCE rfl rfl rfl rfl
theorem decZpx (z : Byte) : Statement (.decZpx z) := of 0xD6 rfl rfl rfl rfl
theorem decAbsx (a : Word) : Statement (.decAbsx a) := of 0xDE rfl rfl rfl rfl
theorem inx : Statement .inx := of 0xE8 rfl rfl rfl rfl
theorem iny : Statement .iny := of 0xC8 rfl rfl rfl rfl
theorem dex : Statement .dex := of 0xCA rfl rfl rfl rfl
theorem dey : Statement .dey := of 0x88 rfl rfl rfl rfl
theorem bcc (d : Byte) : Statement (.bcc d) := of 0x90 rfl rfl rfl rfl
theorem bcs (d : Byte) : Statement (.bcs d) := of 0xB0 rfl rfl rfl rfl
theorem beq (d : Byte) : Statement (.beq d) := of 0xF0 rfl rfl rfl rfl
theorem bne (d : Byte) : Statement (.bne d) := of 0xD0 rfl rfl rfl rfl
theorem bmi (d : Byte) : Statement (.bmi d) := of 0x30 rfl rfl rfl rfl
theorem bpl (d : Byte) : Statement (.bpl d) := of 0x10 rfl rfl rfl rfl
theorem bvc (d : Byte) : Statement (.bvc d) := of 0x50 rfl rfl rfl rfl
theorem bvs (d : Byte) : Statement (.bvs d) := of 0x70 rfl rfl rfl rfl
theorem jmpAbs (a : Word) : Statement (.jmpAbs a) := of 0x4C rfl rfl rfl rfl
theorem jmpInd (a : Word) : Statement (.jmpInd a) := of 0x6C rfl rfl rfl rfl
theorem jsrAbs (a : Word) : Statement (.jsrAbs a) := of 0x20 rfl rfl rfl rfl
theorem rts : Statement .rts := of 0x60 rfl rfl rfl rfl
theorem rti : Statement .rti := of 0x40 rfl rfl rfl rfl
theorem brk : Statement .brk := of 0x00 rfl rfl rfl rfl
theorem pha : Statement .pha := of 0x48 rfl rfl rfl rfl
theorem php : Statement .php := of 0x08 rfl rfl rfl rfl
theorem pla : Statement .pla := of 0x68 rfl rfl rfl rfl
theorem plp : Statement .plp := of 0x28 rfl rfl rfl rfl
theorem clc : Statement .clc := of 0x18 rfl rfl rfl rfl
theorem sec : Statement .sec := of 0x38 rfl rfl rfl rfl
theorem cli : Statement .cli := of 0x58 rfl rfl rfl rfl
theorem sei : Statement .sei := of 0x78 rfl rfl rfl rfl
theorem cld : Statement .cld := of 0xD8 rfl rfl rfl rfl
theorem sed : Statement .sed := of 0xF8 rfl rfl rfl rfl
theorem clv : Statement .clv := of 0xB8 rfl rfl rfl rfl
theorem nop : Statement .nop := of 0xEA rfl rfl rfl rfl
theorem unopZp04 (z : Byte) : Statement (.unopZp04 z) := of 0x04 rfl rfl rfl rfl
theorem unopAbs0C (a : Word) : Statement (.unopAbs0C a) := of 0x0C rfl rfl rfl rfl
theorem unopZpx14 (z : Byte) : Statement (.unopZpx14 z) := of 0x14 rfl rfl rfl rfl
theorem unopImp1A : Statement .unopImp1A := of 0x1A rfl rfl rfl rfl
theorem unopAbsx1C (a : Word) : Statement (.unopAbsx1C a) := of 0x1C rfl rfl rfl rfl
theorem unopZpx34 (z : Byte) : Statement (.unopZpx34 z) := of 0x34 rfl rfl rfl rfl
theorem unopImp3A : Statement .unopImp3A := of 0x3A rfl rfl rfl rfl
theorem unopAbsx3C (a : Word) : Statement (.unopAbsx3C a) := of 0x3C rfl rfl rfl rfl
theorem unopZp44 (z : Byte) : Statement (.unopZp44 z) := of 0x44 rfl rfl rfl rfl
theorem unopZpx54 (z : Byte) : Statement (.unopZpx54 z) := of 0x54 rfl rfl rfl rfl
theorem unopImp5A : Statement .unopImp5A := of 0x5A rfl rfl rfl rfl
theorem unopAbsx5C (a : Word) : Statement (.unopAbsx5C a) := of 0x5C rfl rfl rfl rfl
theorem unopZp64 (z : Byte) : Statement (.unopZp64 z) := of 0x64 rfl rfl rfl rfl
theorem unopZpx74 (z : Byte) : Statement (.unopZpx74 z) := of 0x74 rfl rfl rfl rfl
theorem unopImp7A : Statement .unopImp7A := of 0x7A rfl rfl rfl rfl
theorem unopAbsx7C (a : Word) : Statement (.unopAbsx7C a) := of 0x7C rfl rfl rfl rfl
theorem unopImm80 (v : Byte) : Statement (.unopImm80 v) := of 0x80 rfl rfl rfl rfl
theorem unopImm82 (v : Byte) : Statement (.unopImm82 v) := of 0x82 rfl rfl rfl rfl
theorem unopImm89 (v : Byte) : Statement (.unopImm89 v) := of 0x89 rfl rfl rfl rfl
theorem unopImmC2 (v : Byte) : Statement (.unopImmC2 v) := of 0xC2 rfl rfl rfl rfl
theorem unopZpxD4 (z : Byte) : Statement (.unopZpxD4 z) := of 0xD4 rfl rfl rfl rfl
theorem unopImpDA : Statement .unopImpDA := of 0xDA rfl rfl rfl rfl
theorem unopAbsxDC (a : Word) : Statement (.unopAbsxDC a) := of 0xDC rfl rfl rfl rfl
theorem unopImmE2 (v : Byte) : Statement (.unopImmE2 v) := of 0xE2 rfl rfl rfl rfl
theorem unopZpxF4 (z : Byte) : Statement (.unopZpxF4 z) := of 0xF4 rfl rfl rfl rfl
theorem unopImpFA : Statement .unopImpFA := of 0xFA rfl rfl rfl rfl
theorem unopAbsxFC (a : Word) : Statement (.unopAbsxFC a) := of 0xFC rfl rfl rfl rfl
theorem laxIndx (z : Byte) : Statement (.laxIndx z) := of 0xA3 rfl rfl rfl rfl
theorem laxZp (z : Byte) : Statement (.laxZp z) := of 0xA7 rfl rfl rfl rfl
theorem laxAbs (a : Word) : Statement (.laxAbs a) := of 0xAF rfl rfl rfl rfl
theorem laxIndy (z : Byte) : Statement (.laxIndy z) := of 0xB3 rfl rfl rfl rfl
theorem laxZpy (z : Byte) : Statement (.laxZpy z) := of 0xB7 rfl rfl rfl rfl
theorem laxAbsy (a : Word) : Statement (.laxAbsy a) := of 0xBF rfl rfl rfl rfl
theorem saxIndx (z : Byte) : Statement (.saxIndx z) := of 0x83 rfl rfl rfl rfl
theorem saxZp (z : Byte) : Statement (.saxZp z) := of 0x87 rfl rfl rfl rfl
theorem saxAbs (a : Word) : Statement (.saxAbs a) := of 0x8F rfl rfl rfl rfl
theorem saxZpy (z : Byte) : Statement (.saxZpy z) := of 0x97 rfl rfl rfl rfl
theorem usbcImm (v : Byte) : Statement (.usbcImm v) := of 0xEB rfl rfl rfl rfl
theorem dcpIndx (z : Byte) : Statement (.dcpIndx z) := of 0xC3 rfl rfl rfl rfl
theorem dcpZp (z : Byte) : Statement (.dcpZp z) := of 0xC7 rfl rfl rfl rfl
theorem dcpAbs (a : Word) : Statement (.dcpAbs a) := of 0xCF rfl rfl rfl rfl
theorem dcpIndy (z : Byte) : Statement (.dcpIndy z) := of 0xD3 rfl rfl rfl rfl
theorem dcpZpx (z : Byte) : Statement (.dcpZpx z) := of 0xD7 rfl rfl rfl rfl
theorem dcpAbsy (a : Word) : Statement (.dcpAbsy a) := of 0xDB rfl rfl rfl rfl
theorem dcpAbsx (a : Word) : Statement (.dcpAbsx a) := of 0xDF rfl rfl rfl rfl
theorem isbIndx (z : Byte) : Statement (.isbIndx z) := of 0xE3 rfl rfl rfl rfl
theorem isbZp (z : Byte) : Statement (.isbZp z) := of 0xE7 rfl rfl rfl rfl
theorem isbAbs (a : Word) : Statement (.isbAbs a) := of 0xEF rfl rfl rfl rfl
theorem isbIndy (z : Byte) : Statement (.isbIndy z) := of 0xF3 rfl rfl rfl rfl
theorem isbZpx (z : Byte) : Statement (.isbZpx z) := of 0xF7 rfl rfl rfl rfl
theorem isbAbsy (a : Word) : Statement (.isbAbsy a) := of 0xFB rfl rfl rfl rfl
theorem isbAbsx (a : Word) : Statement (.isbAbsx a) := of 0xFF rfl rfl rfl rfl
theorem sloIndx (z : Byte) : Statement (.sloIndx z) := of 0x03 rfl rfl rfl rfl
theorem sloZp (z : Byte) : Statement (.sloZp z) := of 0x07 rfl rfl rfl rfl
theorem sloAbs (a : Word) : Statement (.sloAbs a) := of 0x0F rfl rfl rfl rfl
theorem sloIndy (z : Byte) : Statement (.sloIndy z) := of 0x13 rfl rfl rfl rfl
theorem sloZpx (z : Byte) : Statement (.sloZpx z) := of 0x17 rfl rfl rfl rfl
theorem sloAbsy (a : Word) : Statement (.sloAbsy a) := of 0x1B rfl rfl rfl rfl
theorem sloAbsx (a : Word) : Statement (.sloAbsx a) := of 0x1F rfl rfl rfl rfl
theorem rlaIndx (z : Byte) : Statement (.rlaIndx z) := of 0x23 rfl rfl rfl rfl
theorem rlaZp (z : Byte) : Statement (.rlaZp z) := of 0x27 rfl rfl rfl rfl
theorem rlaAbs (a : Word) : Statement (.rlaAbs a) := of 0x2F rfl rfl rfl rfl
theorem rlaIndy (z : Byte) : Statement (.rlaIndy z) := of 0x33 rfl rfl rfl rfl
theorem rlaZpx (z : Byte) : Statement (.rlaZpx z) := of 0x37 rfl rfl rfl rfl
theorem rlaAbsy (a : Word) : Statement (.rlaAbsy a) := of 0x3B rfl rfl rfl rfl
theorem rlaAbsx (a : Word) : Statement (.rlaAbsx a) := of 0x3F rfl rfl rfl rfl
theorem sreIndx (z : Byte) : Statement (.sreIndx z) := of 0x43 rfl rfl rfl rfl
theorem sreZp (z : Byte) : Statement (.sreZp z) := of 0x47 rfl rfl rfl rfl
theorem sreAbs (a : Word) : Statement (.sreAbs a) := of 0x4F rfl rfl rfl rfl
theorem sreIndy (z : Byte) : Statement (.sreIndy z) := of 0x53 rfl rfl rfl rfl
theorem sreZpx (z : Byte) : Statement (.sreZpx z) := of 0x57 rfl rfl rfl rfl
theorem sreAbsy (a : Word) : Statement (.sreAbsy a) := of 0x5B rfl rfl rfl rfl
theorem sreAbsx (a : Word) : Statement (.sreAbsx a) := of 0x5F rfl rfl rfl rfl
theorem rraIndx (z : Byte) : Statement (.rraIndx z) := of 0x63 rfl rfl rfl rfl
theorem rraZp (z : Byte) : Statement (.rraZp z) := of 0x67 rfl rfl rfl rfl
theorem rraAbs (a : Word) : Statement (.rraAbs a) := of 0x6F rfl rfl rfl rfl
theorem rraIndy (z : Byte) : Statement (.rraIndy z) := of 0x73 rfl rfl rfl rfl
theorem rraZpx (z : Byte) : Statement (.rraZpx z) := of 0x77 rfl rfl rfl rfl
theorem rraAbsy (a : Word) : Statement (.rraAbsy a) := of 0x7B rfl rfl rfl rfl
theorem rraAbsx (a : Word) : Statement (.rraAbsx a) := of 0x7F rfl rfl rfl rfl

end Sys2Proof.Laws.Length
end

