-- ==== Sys2Proof/Laws/Rendering.lean ====
section
/-! SUPPORT. Laws/Rendering.lean: what one dot of the picture engine can change, and that it keeps the engine in its
ranges. -/

namespace Sys2Proof.Machine

/-- Falling keys below one bound lie below a larger one. -/
theorem fallingBelow_mono {α : Type} {b b' : Nat} {m : List (Nat × α)} (h : b ≤ b') (hm : fallingBelow b m) :
    fallingBelow b' m := by
  cases m with
  | nil => trivial
  | cons c m => exact ⟨Nat.lt_of_lt_of_le hm.1 h, hm.2⟩

/-- Setting an entry keeps the keys falling. -/
theorem fallingBelow_set {α : Type} {b k : Nat} {a : α} {m : List (Nat × α)} (hk : k < b) (hm : fallingBelow b m) :
    fallingBelow b (fallingSet m k a) := by
  induction m generalizing b with
  | nil => exact ⟨hk, trivial⟩
  | cons c m ih =>
    obtain ⟨k', a'⟩ := c
    unfold fallingSet
    split_ifs with h1 h2
    · exact ⟨hk, h1, hm.2⟩
    · subst h2; exact ⟨hk, hm.2⟩
    · exact ⟨hm.1, ih (by omega) hm.2⟩

/-- An entry set is the new one or an old one. -/
theorem mem_fallingSet {α : Type} {k : Nat} {a : α} {m : List (Nat × α)} {r : Nat × α} (h : r ∈ fallingSet m k a) :
    r = (k, a) ∨ r ∈ m := by
  induction m with
  | nil => simpa [fallingSet] using h
  | cons c m ih =>
    obtain ⟨k', a'⟩ := c
    unfold fallingSet at h
    split_ifs at h
    · simpa using h
    · rcases List.mem_cons.1 h with h | h
      · exact .inl h
      · exact .inr (List.mem_cons_of_mem _ h)
    · rcases List.mem_cons.1 h with h | h
      · exact .inr (h ▸ List.mem_cons_self)
      · exact (ih h).imp id (List.mem_cons_of_mem _)

/-- An entry found is in the list. -/
theorem mem_of_fallingGet {α : Type} {k : Nat} {a : α} {m : List (Nat × α)} (h : fallingGet m k = some a) :
    (k, a) ∈ m := by
  induction m with
  | nil => cases h
  | cons c m ih =>
    obtain ⟨k', a'⟩ := c
    unfold fallingGet at h
    split_ifs at h with hk
    · cases h; subst hk; exact List.mem_cons_self
    · exact List.mem_cons_of_mem _ (ih h)

/-- Writing an entry of the picture keeps the frame's form. -/
theorem FrameWf_set {f : Frame} {y x : Nat} {p : Pixel} (hy : y < 240) (hx : x < 256) (hf : FrameWf f) :
    FrameWf (frameSet f y x p) := by
  refine ⟨fallingBelow_set hy hf.1, fun r hr => ?_⟩
  rcases mem_fallingSet hr with h | h
  · subst h
    cases hg : fallingGet f y with
    | none => exact ⟨hx, trivial⟩
    | some row => exact fallingBelow_set hx (hf.2 _ (mem_of_fallingGet hg))
  · exact hf.2 r h

/-- Evaluation never selects more than eight sprites (rules R54, R422). -/
theorem evaluateFrom_length (p : Ppu) (left : Nat) (found : List SpriteEntry) (h : found.length ≤ 8) :
    (evaluateFrom p left found).1.length ≤ 8 := by
  induction left generalizing found with
  | zero => exact h
  | succ left ih =>
    unfold evaluateFrom
    dsimp only
    split_ifs with h1 h2
    · exact ih _ (by rw [List.length_append]; simpa using h2)
    · exact h
    · exact ih _ h

/-- What the work of one dot can change: in the processor, the memories, the configuration, the registers the CPU
writes and the counters, nothing. -/
structure DotFrame (s t : State) : Prop where
  cpu : t.cpu = s.cpu
  wram : t.wram = s.wram
  sram : t.sram = s.sram
  fault : t.fault = s.fault
  cart : t.cart = s.cart
  params : t.params = s.params
  irqLevels : t.host.irqLevels = s.host.irqLevels
  oam : t.ppu.oam = s.ppu.oam
  palette : t.ppu.palette = s.ppu.palette
  nametable : t.ppu.nametable = s.ppu.nametable
  ctrl : t.ppu.ctrl = s.ppu.ctrl
  mask : t.ppu.mask = s.ppu.mask
  oamAddr : t.ppu.oamAddr = s.ppu.oamAddr
  tmp : t.ppu.t = s.ppu.t
  x : t.ppu.x = s.ppu.x
  w : t.ppu.w = s.ppu.w
  readBuffer : t.ppu.readBuffer = s.ppu.readBuffer
  scanline : t.ppu.scanline = s.ppu.scanline
  dot : t.ppu.dot = s.ppu.dot
  oddFrame : t.ppu.oddFrame = s.ppu.oddFrame
  ticks : t.ppu.ticks = s.ppu.ticks

theorem DotFrame.refl (s : State) : DotFrame s s := by
  constructor <;> rfl

theorem DotFrame.trans {s t u : State} (h : DotFrame s t) (h' : DotFrame t u) : DotFrame s u :=
  ⟨h'.cpu.trans h.cpu, h'.wram.trans h.wram, h'.sram.trans h.sram, h'.fault.trans h.fault, h'.cart.trans h.cart,
    h'.params.trans h.params, h'.irqLevels.trans h.irqLevels, h'.oam.trans h.oam, h'.palette.trans h.palette,
    h'.nametable.trans h.nametable, h'.ctrl.trans h.ctrl, h'.mask.trans h.mask, h'.oamAddr.trans h.oamAddr,
    h'.tmp.trans h.tmp, h'.x.trans h.x, h'.w.trans h.w, h'.readBuffer.trans h.readBuffer, h'.scanline.trans h.scanline,
    h'.dot.trans h.dot, h'.oddFrame.trans h.oddFrame, h'.ticks.trans h.ticks⟩

theorem shiftStage_frame (s : State) : DotFrame s (shiftStage s) := by
  unfold shiftStage
  split_ifs
  · constructor <;> rfl
  · exact DotFrame.refl s

theorem pixelStage_frame (s : State) : DotFrame s (pixelStage s) := by
  unfold pixelStage
  split_ifs
  · constructor <;> rfl
  · exact DotFrame.refl s

theorem reloadStage_frame (s : State) : DotFrame s (reloadStage s) := by
  unfold reloadStage
  split_ifs
  · constructor <;> rfl
  · exact DotFrame.refl s

theorem fetchStage_frame (s : State) : DotFrame s (fetchStage s) := by
  unfold fetchStage
  split_ifs
  · unfold backgroundFetch
    dsimp only
    split <;> constructor <;> rfl
  · exact DotFrame.refl s

theorem scrollStage_frame (s : State) : DotFrame s (scrollStage s) := by
  unfold scrollStage
  split_ifs
  · constructor <;> rfl
  · exact DotFrame.refl s

theorem spriteStage_frame (s : State) : DotFrame s (spriteStage s) := by
  unfold spriteStage spriteWork evaluateSprites
  split_ifs <;> constructor <;> rfl

theorem statusStage_frame (s : State) : DotFrame s (statusStage s) := by
  unfold statusStage vblankStart
  split_ifs <;> constructor <;> rfl

/-- The work of one dot (rule R403). -/
theorem dotWork_frame (s : State) : DotFrame s (dotWork s) :=
  (((((((shiftStage_frame s).trans (pixelStage_frame _)).trans (reloadStage_frame _)).trans (fetchStage_frame _)).trans
    (scrollStage_frame _)).trans (spriteStage_frame _)).trans (statusStage_frame _))

/-- What one tick leaves alone (rule R400). -/
structure TickFrame (s t : State) : Prop where
  cpu : t.cpu = s.cpu
  wram : t.wram = s.wram
  sram : t.sram = s.sram
  fault : t.fault = s.fault
  cart : t.cart = s.cart
  params : t.params = s.params
  irqLevels : t.host.irqLevels = s.host.irqLevels
  oam : t.ppu.oam = s.ppu.oam
  palette : t.ppu.palette = s.ppu.palette
  nametable : t.ppu.nametable = s.ppu.nametable
  ctrl : t.ppu.ctrl = s.ppu.ctrl
  mask : t.ppu.mask = s.ppu.mask
  oamAddr : t.ppu.oamAddr = s.ppu.oamAddr
  tmp : t.ppu.t = s.ppu.t
  x : t.ppu.x = s.ppu.x
  w : t.ppu.w = s.ppu.w
  readBuffer : t.ppu.readBuffer = s.ppu.readBuffer

theorem TickFrame.refl (s : State) : TickFrame s s := by
  constructor <;> rfl

theorem TickFrame.trans {s t u : State} (h : TickFrame s t) (h' : TickFrame t u) : TickFrame s u :=
  ⟨h'.cpu.trans h.cpu, h'.wram.trans h.wram, h'.sram.trans h.sram, h'.fault.trans h.fault, h'.cart.trans h.cart,
    h'.params.trans h.params, h'.irqLevels.trans h.irqLevels, h'.oam.trans h.oam, h'.palette.trans h.palette,
    h'.nametable.trans h.nametable, h'.ctrl.trans h.ctrl, h'.mask.trans h.mask, h'.oamAddr.trans h.oamAddr,
    h'.tmp.trans h.tmp, h'.x.trans h.x, h'.w.trans h.w, h'.readBuffer.trans h.readBuffer⟩

/-- Advancing the counters touches nothing else (rule R401). -/
theorem advance_frame (s : State) : TickFrame s (advance s) := by
  unfold advance
  dsimp only
  split_ifs <;> constructor <;> rfl

/-- One tick counts one tick. -/
theorem advance_ticks (s : State) : (advance s).ppu.ticks = s.ppu.ticks + 1 := by
  unfold advance
  dsimp only
  split_ifs <;> rfl

theorem advance_secondary (s : State) : (advance s).ppu.secondary = s.ppu.secondary := by
  unfold advance
  dsimp only
  split_ifs <;> rfl

theorem advance_units (s : State) : (advance s).ppu.units = s.ppu.units := by
  unfold advance
  dsimp only
  split_ifs <;> rfl

theorem advance_pixels (s : State) : (advance s).ppu.frame = s.ppu.frame := by
  unfold advance
  dsimp only
  split_ifs <;> rfl

theorem ppuTick_frame (s : State) : TickFrame s (ppuTick s) := by
  have h := dotWork_frame s
  exact TickFrame.trans ⟨h.cpu, h.wram, h.sram, h.fault, h.cart, h.params, h.irqLevels, h.oam, h.palette, h.nametable,
    h.ctrl, h.mask, h.oamAddr, h.tmp, h.x, h.w, h.readBuffer⟩ (advance_frame (dotWork s))

theorem ppuTick_ticks (s : State) : (ppuTick s).ppu.ticks = s.ppu.ticks + 1 := by
  rw [ppuTick, advance_ticks, (dotWork_frame s).ticks]

theorem ppuTicks_frame (n : Nat) (s : State) : TickFrame s (ppuTicks n s) := by
  induction n generalizing s with
  | zero => exact TickFrame.refl s
  | succ n ih => exact (ppuTick_frame s).trans (ih (ppuTick s))

theorem ppuTicks_ticks (n : Nat) (s : State) : (ppuTicks n s).ppu.ticks = s.ppu.ticks + n := by
  induction n generalizing s with
  | zero => rfl
  | succ n ih => rw [ppuTicks, ih, ppuTick_ticks]; omega

/-- What a tick leaves alone is all that canonical form speaks of. -/
theorem TickFrame.memoriesWf {s t : State} (h : TickFrame s t) (hm : MemoriesWf s) : MemoriesWf t := by
  unfold MemoriesWf at *
  rw [h.wram, h.sram, h.oam, h.palette, h.nametable, h.cart]
  exact hm

/-- The lists and the frame stay in their ranges through the work of a dot. -/
structure ListsWf (p : Ppu) : Prop where
  secondary : p.secondary.length ≤ 8
  units : p.units.length ≤ 8
  frame : FrameWf p.frame

theorem spriteWork_lists {s : State} (h : ListsWf s.ppu) : ListsWf (spriteWork s) := by
  unfold spriteWork evaluateSprites
  dsimp only
  split_ifs
  · exact ⟨h.secondary, Nat.zero_le _, h.frame⟩
  · exact h
  · exact ⟨Nat.zero_le _, h.units, h.frame⟩
  · exact ⟨evaluateFrom_length _ _ _ h.secondary, h.units, h.frame⟩
  · exact ⟨h.secondary, by simpa using h.secondary, h.frame⟩
  · exact h

theorem dotWork_lists {s : State} (h : ListsWf s.ppu) : ListsWf (dotWork s).ppu := by
  have h1 : ListsWf (shiftStage s).ppu := by
    unfold shiftStage
    split_ifs
    · exact ⟨h.secondary, h.units, h.frame⟩
    · exact h
  have h2 : ListsWf (pixelStage (shiftStage s)).ppu := by
    generalize shiftStage s = s at h1
    unfold pixelStage
    split_ifs with hc
    · simp only [visibleLine, dotIn, Bool.and_eq_true, decide_eq_true_eq] at hc
      exact ⟨h1.secondary, h1.units, FrameWf_set hc.1 (by omega) h1.frame⟩
    · exact h1
  have h3 : ListsWf (reloadStage (pixelStage (shiftStage s))).ppu := by
    generalize pixelStage (shiftStage s) = s at h2
    unfold reloadStage
    split_ifs
    · exact ⟨h2.secondary, h2.units, h2.frame⟩
    · exact h2
  have h4 : ListsWf (fetchStage (reloadStage (pixelStage (shiftStage s)))).ppu := by
    generalize reloadStage (pixelStage (shiftStage s)) = s at h3
    unfold fetchStage backgroundFetch
    split_ifs
    · dsimp only
      split <;> exact ⟨h3.secondary, h3.units, h3.frame⟩
    · exact h3
  have h5 : ListsWf (scrollStage (fetchStage (reloadStage (pixelStage (shiftStage s))))).ppu := by
    generalize fetchStage (reloadStage (pixelStage (shiftStage s))) = s at h4
    unfold scrollStage
    split_ifs
    · exact ⟨h4.secondary, h4.units, h4.frame⟩
    · exact h4
  have h6 : ListsWf (spriteStage (scrollStage (fetchStage (reloadStage (pixelStage (shiftStage s)))))).ppu := by
    generalize scrollStage (fetchStage (reloadStage (pixelStage (shiftStage s)))) = s at h5
    unfold spriteStage
    split_ifs
    · exact spriteWork_lists h5
    · exact h5
  rw [dotWork]
  generalize spriteStage (scrollStage (fetchStage (reloadStage (pixelStage (shiftStage s))))) = s at h6
  unfold statusStage vblankStart
  split_ifs <;> exact ⟨h6.secondary, h6.units, h6.frame⟩

/-- The counters stay in their ranges (rule R52). -/
theorem advance_counters {s : State} (hs : s.ppu.scanline ≤ 261) (hd : s.ppu.dot ≤ 340) :
    (advance s).ppu.scanline ≤ 261 ∧ (advance s).ppu.dot ≤ 340 := by
  unfold advance
  dsimp only
  split_ifs with h1 h2 h3
  · exact ⟨Nat.zero_le _, Nat.zero_le _⟩
  · exact ⟨hs, by have := bne_iff_ne.1 h2; show s.ppu.dot + 1 ≤ 340; omega⟩
  · exact ⟨by have := bne_iff_ne.1 h3; show s.ppu.scanline + 1 ≤ 261; omega, Nat.zero_le _⟩
  · exact ⟨Nat.zero_le _, Nat.zero_le _⟩

/-- One tick keeps the picture engine in its ranges (rules R52, R54, R55, R61). -/
theorem ppuTick_pictureWf {s : State} (h : PictureWf s.ppu) : PictureWf (ppuTick s).ppu := by
  obtain ⟨h1, h2, h3, h4, h5⟩ := h
  have hl := dotWork_lists (s := s) ⟨h3, h4, h5⟩
  rw [← (dotWork_frame s).scanline] at h1
  rw [← (dotWork_frame s).dot] at h2
  rw [ppuTick]
  generalize dotWork s = u at h1 h2 hl
  have hc := advance_counters h1 h2
  refine ⟨hc.1, hc.2, ?_⟩
  rw [advance_secondary, advance_units, advance_pixels]
  exact ⟨hl.secondary, hl.units, hl.frame⟩

theorem ppuTicks_pictureWf {s : State} (n : Nat) (h : PictureWf s.ppu) : PictureWf (ppuTicks n s).ppu := by
  induction n generalizing s with
  | zero => exact h
  | succ n ih => exact ih (ppuTick_pictureWf h)

end Sys2Proof.Machine
end

