-- ==== Sys2Proof/Machine/Trace.lean ====
section
/-! DEFINITION. Machine/Trace.lean: the trace record of an instruction boundary (rule R504) and the assembler syntax
of an instruction (rule R129). Neither acts on the machine. -/

namespace Sys2Proof.Machine

/-- The reference-trace record (rule R504). -/
structure TraceRecord where
  pc : Word
  /-- the byte the next step fetches; `none` where that fetch is fatal -/
  opcode : Option Byte
  a : Byte
  x : Byte
  y : Byte
  p : Byte
  sp : Byte
  cycles : Nat
  deriving DecidableEq, Repr

/-- The record sampled before `CpuStep` (rule R504). The state a bus read would leave is dropped: the sampling
performs no bus access. -/
def traceRecord (s : State) : TraceRecord where
  pc := s.cpu.pc
  opcode := match memRead s s.cpu.pc with
    | .ok op _ => some op
    | .fatal _ _ => none
  a := s.cpu.a
  x := s.cpu.x
  y := s.cpu.y
  p := packP s.cpu
  sp := s.cpu.sp
  cycles := s.cpu.cycles

/-- One hexadecimal digit. -/
def hexDigit (n : Nat) : String :=
  (["0", "1", "2", "3", "4", "5", "6", "7", "8", "9", "A", "B", "C", "D", "E", "F"]).getD (n % 16) "0"

/-- `$nn` (rule R14). -/
def hexByte (b : Byte) : String := "$" ++ hexDigit (b.toNat / 16) ++ hexDigit b.toNat

/-- `$nnnn` (rule R14). -/
def hexWord (w : Word) : String :=
  "$" ++ hexDigit (w.toNat / 4096) ++ hexDigit (w.toNat / 256) ++ hexDigit (w.toNat / 16) ++ hexDigit w.toNat

/-- The operand in assembler syntax (rule R129) of an instruction at `pc`; a branch shows its target. -/
def operandText (pc : Word) : Operand → String
  | .imp => ""
  | .acc => " A"
  | .imm v => " #" ++ hexByte v
  | .zp z => " " ++ hexByte z
  | .zpx z => " " ++ hexByte z ++ ",X"
  | .zpy z => " " ++ hexByte z ++ ",Y"
  | .abs a => " " ++ hexWord a
  | .absx a => " " ++ hexWord a ++ ",X"
  | .absy a => " " ++ hexWord a ++ ",Y"
  | .ind a => " (" ++ hexWord a ++ ")"
  | .indx z => " (" ++ hexByte z ++ ",X)"
  | .indy z => " (" ++ hexByte z ++ "),Y"
  | .rel d => " " ++ hexWord (pc + 2 + d.signExtend 16)

/-- An instruction at `pc` in assembler syntax (rule R129). -/
def assemblerText (pc : Word) (i : Instr) : String := i.mnemonic ++ operandText pc i.operand

/-- The displacement byte an assembler writes for a branch at `pc` to `target` (rule R129); `none` when the target is
out of reach. -/
def branchDisplacement (pc target : Word) : Option Byte :=
  let d := target - (pc + 2)
  if (d.setWidth 8).signExtend 16 = d then some (d.setWidth 8) else none

end Sys2Proof.Machine
end

