-- ==== Sys2Proof/Tests/Slice0.lean ====
section
/-! SUPPORT. Tests/Slice0.lean: small tests of the model. Expected results are the spec's own: the opcode map of rules
R125 and R126 for decoding, and the vectors S1-S8 and V-* of spec/95_test_vectors.md for one instruction or one dot;
a test's docstring names its vector. The theorems called `witness_*` show, for each obligation with hypotheses, states
and operands that meet them. -/

namespace Sys2Proof.Tests

open Sys2Proof Sys2Proof.Machine

set_option Elab.async false

/-! ### Well-formedness: each check refuses an ill-formed term -/

/-- Rules R320, R331: an unofficial instruction is not mapped under the default. -/
theorem test_wellFormed_unofficial :
    (Instr.laxZp 0x10).wellFormed .none = false ∧ (Instr.laxZp 0x10).wellFormed .nestest = true ∧
      (Instr.ldaZp 0x10).wellFormed .none = true := by decide

/-- A record the load accepts, its bytes all zero (rule R461). -/
def goodRecord : CartridgeRecord where
  prg := List.replicate 16384 0x00
  chr := List.replicate 8192 0x00
  mirroring := .vertical
  sramBanks := 0
  mapper := 0

/-- V-I10: a mapper other than 0 is refused. -/
theorem test_wellFormed_mapper : CartridgeRecord.mapperOk { goodRecord with mapper := 1 } = false := by decide

/-- V-I10: a program ROM of 8 KB is refused. -/
theorem test_wellFormed_prg : CartridgeRecord.prgOk { goodRecord with prg := List.replicate 8192 0x00 } = false := by
  simp [CartridgeRecord.prgOk, -List.reduceReplicate]

/-- Rule R470: a pattern ROM of another length is refused. -/
theorem test_wellFormed_chr : CartridgeRecord.chrOk { goodRecord with chr := [] } = false := by decide

/-- Rule R470: the record with none of these faults is accepted. -/
theorem test_wellFormed_record : goodRecord.wellFormed = true := by
  simp [goodRecord, CartridgeRecord.wellFormed, CartridgeRecord.mapperOk, CartridgeRecord.prgOk,
    CartridgeRecord.chrOk, -List.reduceReplicate]

/-! ### Decoding: the words of rules R125 and R126 -/

/-- The bytes decode to the instruction and nothing is left. -/
def reads (bytes : List Byte) (i : Instr) : Bool :=
  match decode .nestest bytes with
  | .ok (j, []) => decide (j = i)
  | .ok (_, _ :: _) => false
  | .error _ => false

/-- Opcode map, row 0x. -/
theorem test_decode_row0 :
    (reads [0x00] .brk && reads [0x01, 0x9C] (.oraIndx 0x9C) && reads [0x03, 0x9C] (.sloIndx 0x9C) &&
    reads [0x04, 0x9C] (.unopZp04 0x9C) && reads [0x05, 0x9C] (.oraZp 0x9C) &&
    reads [0x06, 0x9C] (.aslZp 0x9C) && reads [0x07, 0x9C] (.sloZp 0x9C) && reads [0x08] .php &&
    reads [0x09, 0x9C] (.oraImm 0x9C) && reads [0x0A] .aslAcc &&
    reads [0x0C, 0x34, 0x12] (.unopAbs0C 0x1234) && reads [0x0D, 0x34, 0x12] (.oraAbs 0x1234) &&
    reads [0x0E, 0x34, 0x12] (.aslAbs 0x1234) && reads [0x0F, 0x34, 0x12] (.sloAbs 0x1234)) = true := by decide

/-- Opcode map, row 1x. -/
theorem test_decode_row1 :
    (reads [0x10, 0x9C] (.bpl 0x9C) && reads [0x11, 0x9C] (.oraIndy 0x9C) &&
    reads [0x13, 0x9C] (.sloIndy 0x9C) && reads [0x14, 0x9C] (.unopZpx14 0x9C) &&
    reads [0x15, 0x9C] (.oraZpx 0x9C) && reads [0x16, 0x9C] (.aslZpx 0x9C) &&
    reads [0x17, 0x9C] (.sloZpx 0x9C) && reads [0x18] .clc && reads [0x19, 0x34, 0x12] (.oraAbsy 0x1234) &&
    reads [0x1A] .unopImp1A && reads [0x1B, 0x34, 0x12] (.sloAbsy 0x1234) &&
    reads [0x1C, 0x34, 0x12] (.unopAbsx1C 0x1234) && reads [0x1D, 0x34, 0x12] (.oraAbsx 0x1234) &&
    reads [0x1E, 0x34, 0x12] (.aslAbsx 0x1234) && reads [0x1F, 0x34, 0x12] (.sloAbsx 0x1234)) = true := by decide

/-- Opcode map, row 2x. -/
theorem test_decode_row2 :
    (reads [0x20, 0x34, 0x12] (.jsrAbs 0x1234) && reads [0x21, 0x9C] (.andIndx 0x9C) &&
    reads [0x23, 0x9C] (.rlaIndx 0x9C) && reads [0x24, 0x9C] (.bitZp 0x9C) &&
    reads [0x25, 0x9C] (.andZp 0x9C) && reads [0x26, 0x9C] (.rolZp 0x9C) && reads [0x27, 0x9C] (.rlaZp 0x9C) &&
    reads [0x28] .plp && reads [0x29, 0x9C] (.andImm 0x9C) && reads [0x2A] .rolAcc &&
    reads [0x2C, 0x34, 0x12] (.bitAbs 0x1234) && reads [0x2D, 0x34, 0x12] (.andAbs 0x1234) &&
    reads [0x2E, 0x34, 0x12] (.rolAbs 0x1234) && reads [0x2F, 0x34, 0x12] (.rlaAbs 0x1234)) = true := by decide

/-- Opcode map, row 3x. -/
theorem test_decode_row3 :
    (reads [0x30, 0x9C] (.bmi 0x9C) && reads [0x31, 0x9C] (.andIndy 0x9C) &&
    reads [0x33, 0x9C] (.rlaIndy 0x9C) && reads [0x34, 0x9C] (.unopZpx34 0x9C) &&
    reads [0x35, 0x9C] (.andZpx 0x9C) && reads [0x36, 0x9C] (.rolZpx 0x9C) &&
    reads [0x37, 0x9C] (.rlaZpx 0x9C) && reads [0x38] .sec && reads [0x39, 0x34, 0x12] (.andAbsy 0x1234) &&
    reads [0x3A] .unopImp3A && reads [0x3B, 0x34, 0x12] (.rlaAbsy 0x1234) &&
    reads [0x3C, 0x34, 0x12] (.unopAbsx3C 0x1234) && reads [0x3D, 0x34, 0x12] (.andAbsx 0x1234) &&
    reads [0x3E, 0x34, 0x12] (.rolAbsx 0x1234) && reads [0x3F, 0x34, 0x12] (.rlaAbsx 0x1234)) = true := by decide

/-- Opcode map, row 4x. -/
theorem test_decode_row4 :
    (reads [0x40] .rti && reads [0x41, 0x9C] (.eorIndx 0x9C) && reads [0x43, 0x9C] (.sreIndx 0x9C) &&
    reads [0x44, 0x9C] (.unopZp44 0x9C) && reads [0x45, 0x9C] (.eorZp 0x9C) &&
    reads [0x46, 0x9C] (.lsrZp 0x9C) && reads [0x47, 0x9C] (.sreZp 0x9C) && reads [0x48] .pha &&
    reads [0x49, 0x9C] (.eorImm 0x9C) && reads [0x4A] .lsrAcc && reads [0x4C, 0x34, 0x12] (.jmpAbs 0x1234) &&
    reads [0x4D, 0x34, 0x12] (.eorAbs 0x1234) && reads [0x4E, 0x34, 0x12] (.lsrAbs 0x1234) &&
    reads [0x4F, 0x34, 0x12] (.sreAbs 0x1234)) = true := by decide

/-- Opcode map, row 5x. -/
theorem test_decode_row5 :
    (reads [0x50, 0x9C] (.bvc 0x9C) && reads [0x51, 0x9C] (.eorIndy 0x9C) &&
    reads [0x53, 0x9C] (.sreIndy 0x9C) && reads [0x54, 0x9C] (.unopZpx54 0x9C) &&
    reads [0x55, 0x9C] (.eorZpx 0x9C) && reads [0x56, 0x9C] (.lsrZpx 0x9C) &&
    reads [0x57, 0x9C] (.sreZpx 0x9C) && reads [0x58] .cli && reads [0x59, 0x34, 0x12] (.eorAbsy 0x1234) &&
    reads [0x5A] .unopImp5A && reads [0x5B, 0x34, 0x12] (.sreAbsy 0x1234) &&
    reads [0x5C, 0x34, 0x12] (.unopAbsx5C 0x1234) && reads [0x5D, 0x34, 0x12] (.eorAbsx 0x1234) &&
    reads [0x5E, 0x34, 0x12] (.lsrAbsx 0x1234) && reads [0x5F, 0x34, 0x12] (.sreAbsx 0x1234)) = true := by decide

/-- Opcode map, row 6x. -/
theorem test_decode_row6 :
    (reads [0x60] .rts && reads [0x61, 0x9C] (.adcIndx 0x9C) && reads [0x63, 0x9C] (.rraIndx 0x9C) &&
    reads [0x64, 0x9C] (.unopZp64 0x9C) && reads [0x65, 0x9C] (.adcZp 0x9C) &&
    reads [0x66, 0x9C] (.rorZp 0x9C) && reads [0x67, 0x9C] (.rraZp 0x9C) && reads [0x68] .pla &&
    reads [0x69, 0x9C] (.adcImm 0x9C) && reads [0x6A] .rorAcc && reads [0x6C, 0x34, 0x12] (.jmpInd 0x1234) &&
    reads [0x6D, 0x34, 0x12] (.adcAbs 0x1234) && reads [0x6E, 0x34, 0x12] (.rorAbs 0x1234) &&
    reads [0x6F, 0x34, 0x12] (.rraAbs 0x1234)) = true := by decide

/-- Opcode map, row 7x. -/
theorem test_decode_row7 :
    (reads [0x70, 0x9C] (.bvs 0x9C) && reads [0x71, 0x9C] (.adcIndy 0x9C) &&
    reads [0x73, 0x9C] (.rraIndy 0x9C) && reads [0x74, 0x9C] (.unopZpx74 0x9C) &&
    reads [0x75, 0x9C] (.adcZpx 0x9C) && reads [0x76, 0x9C] (.rorZpx 0x9C) &&
    reads [0x77, 0x9C] (.rraZpx 0x9C) && reads [0x78] .sei && reads [0x79, 0x34, 0x12] (.adcAbsy 0x1234) &&
    reads [0x7A] .unopImp7A && reads [0x7B, 0x34, 0x12] (.rraAbsy 0x1234) &&
    reads [0x7C, 0x34, 0x12] (.unopAbsx7C 0x1234) && reads [0x7D, 0x34, 0x12] (.adcAbsx 0x1234) &&
    reads [0x7E, 0x34, 0x12] (.rorAbsx 0x1234) && reads [0x7F, 0x34, 0x12] (.rraAbsx 0x1234)) = true := by decide

/-- Opcode map, row 8x. -/
theorem test_decode_row8 :
    (reads [0x80, 0x9C] (.unopImm80 0x9C) && reads [0x81, 0x9C] (.staIndx 0x9C) &&
    reads [0x82, 0x9C] (.unopImm82 0x9C) && reads [0x83, 0x9C] (.saxIndx 0x9C) &&
    reads [0x84, 0x9C] (.styZp 0x9C) && reads [0x85, 0x9C] (.staZp 0x9C) && reads [0x86, 0x9C] (.stxZp 0x9C) &&
    reads [0x87, 0x9C] (.saxZp 0x9C) && reads [0x88] .dey && reads [0x89, 0x9C] (.unopImm89 0x9C) &&
    reads [0x8A] .txa && reads [0x8C, 0x34, 0x12] (.styAbs 0x1234) &&
    reads [0x8D, 0x34, 0x12] (.staAbs 0x1234) && reads [0x8E, 0x34, 0x12] (.stxAbs 0x1234) &&
    reads [0x8F, 0x34, 0x12] (.saxAbs 0x1234)) = true := by decide

/-- Opcode map, row 9x. -/
theorem test_decode_row9 :
    (reads [0x90, 0x9C] (.bcc 0x9C) && reads [0x91, 0x9C] (.staIndy 0x9C) &&
    reads [0x94, 0x9C] (.styZpx 0x9C) && reads [0x95, 0x9C] (.staZpx 0x9C) &&
    reads [0x96, 0x9C] (.stxZpy 0x9C) && reads [0x97, 0x9C] (.saxZpy 0x9C) && reads [0x98] .tya &&
    reads [0x99, 0x34, 0x12] (.staAbsy 0x1234) && reads [0x9A] .txs &&
    reads [0x9D, 0x34, 0x12] (.staAbsx 0x1234)) = true := by decide

/-- Opcode map, row Ax. -/
theorem test_decode_rowA :
    (reads [0xA0, 0x9C] (.ldyImm 0x9C) && reads [0xA1, 0x9C] (.ldaIndx 0x9C) &&
    reads [0xA2, 0x9C] (.ldxImm 0x9C) && reads [0xA3, 0x9C] (.laxIndx 0x9C) &&
    reads [0xA4, 0x9C] (.ldyZp 0x9C) && reads [0xA5, 0x9C] (.ldaZp 0x9C) && reads [0xA6, 0x9C] (.ldxZp 0x9C) &&
    reads [0xA7, 0x9C] (.laxZp 0x9C) && reads [0xA8] .tay && reads [0xA9, 0x9C] (.ldaImm 0x9C) &&
    reads [0xAA] .tax && reads [0xAC, 0x34, 0x12] (.ldyAbs 0x1234) &&
    reads [0xAD, 0x34, 0x12] (.ldaAbs 0x1234) && reads [0xAE, 0x34, 0x12] (.ldxAbs 0x1234) &&
    reads [0xAF, 0x34, 0x12] (.laxAbs 0x1234)) = true := by decide

/-- Opcode map, row Bx. -/
theorem test_decode_rowB :
    (reads [0xB0, 0x9C] (.bcs 0x9C) && reads [0xB1, 0x9C] (.ldaIndy 0x9C) &&
    reads [0xB3, 0x9C] (.laxIndy 0x9C) && reads [0xB4, 0x9C] (.ldyZpx 0x9C) &&
    reads [0xB5, 0x9C] (.ldaZpx 0x9C) && reads [0xB6, 0x9C] (.ldxZpy 0x9C) &&
    reads [0xB7, 0x9C] (.laxZpy 0x9C) && reads [0xB8] .clv && reads [0xB9, 0x34, 0x12] (.ldaAbsy 0x1234) &&
    reads [0xBA] .tsx && reads [0xBC, 0x34, 0x12] (.ldyAbsx 0x1234) &&
    reads [0xBD, 0x34, 0x12] (.ldaAbsx 0x1234) && reads [0xBE, 0x34, 0x12] (.ldxAbsy 0x1234) &&
    reads [0xBF, 0x34, 0x12] (.laxAbsy 0x1234)) = true := by decide

/-- Opcode map, row Cx. -/
theorem test_decode_rowC :
    (reads [0xC0, 0x9C] (.cpyImm 0x9C) && reads [0xC1, 0x9C] (.cmpIndx 0x9C) &&
    reads [0xC2, 0x9C] (.unopImmC2 0x9C) && reads [0xC3, 0x9C] (.dcpIndx 0x9C) &&
    reads [0xC4, 0x9C] (.cpyZp 0x9C) && reads [0xC5, 0x9C] (.cmpZp 0x9C) && reads [0xC6, 0x9C] (.decZp 0x9C) &&
    reads [0xC7, 0x9C] (.dcpZp 0x9C) && reads [0xC8] .iny && reads [0xC9, 0x9C] (.cmpImm 0x9C) &&
    reads [0xCA] .dex && reads [0xCC, 0x34, 0x12] (.cpyAbs 0x1234) &&
    reads [0xCD, 0x34, 0x12] (.cmpAbs 0x1234) && reads [0xCE, 0x34, 0x12] (.decAbs 0x1234) &&
    reads [0xCF, 0x34, 0x12] (.dcpAbs 0x1234)) = true := by decide

/-- Opcode map, row Dx. -/
theorem test_decode_rowD :
    (reads [0xD0, 0x9C] (.bne 0x9C) && reads [0xD1, 0x9C] (.cmpIndy 0x9C) &&
    reads [0xD3, 0x9C] (.dcpIndy 0x9C) && reads [0xD4, 0x9C] (.unopZpxD4 0x9C) &&
    reads [0xD5, 0x9C] (.cmpZpx 0x9C) && reads [0xD6, 0x9C] (.decZpx 0x9C) &&
    reads [0xD7, 0x9C] (.dcpZpx 0x9C) && reads [0xD8] .cld && reads [0xD9, 0x34, 0x12] (.cmpAbsy 0x1234) &&
    reads [0xDA] .unopImpDA && reads [0xDB, 0x34, 0x12] (.dcpAbsy 0x1234) &&
    reads [0xDC, 0x34, 0x12] (.unopAbsxDC 0x1234) && reads [0xDD, 0x34, 0x12] (.cmpAbsx 0x1234) &&
    reads [0xDE, 0x34, 0x12] (.decAbsx 0x1234) && reads [0xDF, 0x34, 0x12] (.dcpAbsx 0x1234)) = true := by decide

/-- Opcode map, row Ex. -/
theorem test_decode_rowE :
    (reads [0xE0, 0x9C] (.cpxImm 0x9C) && reads [0xE1, 0x9C] (.sbcIndx 0x9C) &&
    reads [0xE2, 0x9C] (.unopImmE2 0x9C) && reads [0xE3, 0x9C] (.isbIndx 0x9C) &&
    reads [0xE4, 0x9C] (.cpxZp 0x9C) && reads [0xE5, 0x9C] (.sbcZp 0x9C) && reads [0xE6, 0x9C] (.incZp 0x9C) &&
    reads [0xE7, 0x9C] (.isbZp 0x9C) && reads [0xE8] .inx && reads [0xE9, 0x9C] (.sbcImm 0x9C) &&
    reads [0xEA] .nop && reads [0xEB, 0x9C] (.usbcImm 0x9C) && reads [0xEC, 0x34, 0x12] (.cpxAbs 0x1234) &&
    reads [0xED, 0x34, 0x12] (.sbcAbs 0x1234) && reads [0xEE, 0x34, 0x12] (.incAbs 0x1234) &&
    reads [0xEF, 0x34, 0x12] (.isbAbs 0x1234)) = true := by decide

/-- Opcode map, row Fx. -/
theorem test_decode_rowF :
    (reads [0xF0, 0x9C] (.beq 0x9C) && reads [0xF1, 0x9C] (.sbcIndy 0x9C) &&
    reads [0xF3, 0x9C] (.isbIndy 0x9C) && reads [0xF4, 0x9C] (.unopZpxF4 0x9C) &&
    reads [0xF5, 0x9C] (.sbcZpx 0x9C) && reads [0xF6, 0x9C] (.incZpx 0x9C) &&
    reads [0xF7, 0x9C] (.isbZpx 0x9C) && reads [0xF8] .sed && reads [0xF9, 0x34, 0x12] (.sbcAbsy 0x1234) &&
    reads [0xFA] .unopImpFA && reads [0xFB, 0x34, 0x12] (.isbAbsy 0x1234) &&
    reads [0xFC, 0x34, 0x12] (.unopAbsxFC 0x1234) && reads [0xFD, 0x34, 0x12] (.sbcAbsx 0x1234) &&
    reads [0xFE, 0x34, 0x12] (.incAbsx 0x1234) && reads [0xFF, 0x34, 0x12] (.isbAbsx 0x1234)) = true := by decide

/-- V-U1, V-U2: an unofficial opcode under the default, and an opcode that no setting maps. -/
theorem test_decode_unmapped :
    decode .none [0xA7, 0x10] = .error (.unmapped 0xA7) ∧ decode .nestest [0x02] = .error (.unmapped 0x02) :=
  ⟨rfl, rfl⟩

/-- Rule R122: an instruction cut short is refused. -/
theorem test_decode_truncated : decode .none [0xAD, 0x34] = .error (.truncated 0xAD) := rfl

/-! ### One instruction: the vectors of spec/95_test_vectors.md -/

/-- The default start of the vectors, changed as a vector says. -/
def start (a : Byte := 0) (x : Byte := 0) (y : Byte := 0) (p : Byte := 0x24) (sp : Byte := 0xFD) (pc : Word := 0x0400)
    (ram : List Host.Cell := []) : State :=
  let s := unpackP State.reset p
  { s with
    cpu := { s.cpu with a := a, x := x, y := y, sp := sp, pc := pc, cycles := 100 }
    wram := Memory.ofCells 2048 ram }

/-- What the instruction with these bytes makes of a state; the state itself where it does not complete. -/
def ran (bytes : List Byte) (s : State) : State :=
  match decode .nestest bytes with
  | .ok (i, _) =>
    match exec i s with
    | .next t => t
    | .fault _ | .refused _ => s
  | .error _ => s

/-- The cost of an instruction run from `start`. -/
def cost (t : State) : Nat := t.cpu.cycles - 100

/-- V-M1. -/
theorem test_M1_lda_zpx :
    let t := ran [0xB5, 0xF0] (start (x := 0x20) (ram := [(0x0010, 0x33)]))
    (t.cpu.a, packP t.cpu, cost t) = (0x33, 0x24, 4) := by
  decide +kernel

/-- V-M2. -/
theorem test_M2_ldx_zpy :
    let t := ran [0xB6, 0xFF] (start (y := 0x02) (ram := [(0x0001, 0x44)]))
    (t.cpu.x, cost t) = (0x44, 4) := by
  decide +kernel

/-- V-M3. -/
theorem test_M3_lda_absx :
    let t := ran [0xBD, 0xF0, 0x02] (start (x := 0x20) (ram := [(0x0310, 0x99)]))
    (t.cpu.a, packP t.cpu, cost t) = (0x99, 0xA4, 5) := by
  decide +kernel

/-- V-M4. -/
theorem test_M4_lda_absy :
    let t := ran [0xB9, 0x00, 0x03] (start (y := 0x05) (ram := [(0x0305, 0x01)]))
    (t.cpu.a, cost t) = (0x01, 4) := by
  decide +kernel

/-- V-M5. -/
theorem test_M5_lda_indx :
    let t := ran [0xA1, 0xFE] (start (x := 0x01) (ram := [(0x00FF, 0x34), (0x0000, 0x02), (0x0234, 0x77)]))
    (t.cpu.a, cost t) = (0x77, 6) := by
  decide +kernel

/-- V-M6. -/
theorem test_M6_lda_indy :
    let t := ran [0xB1, 0xFF] (start (y := 0x10) (ram := [(0x00FF, 0xF8), (0x0000, 0x02), (0x0308, 0x66)]))
    (t.cpu.a, cost t) = (0x66, 6) := by
  decide +kernel

/-- V-M7. -/
theorem test_M7_sta_indy :
    let t := ran [0x91, 0x20] (start (a := 0x5A) (y := 0x10) (ram := [(0x0020, 0xF8), (0x0021, 0x02)]))
    (t.wram.read 0x0308, cost t) = (0x5A, 6) := by
  decide +kernel

/-- V-M8. -/
theorem test_M8_sta_absx :
    let t := ran [0x9D, 0x00, 0x03] (start (a := 0x5A) (x := 0x01))
    (t.wram.read 0x0301, cost t) = (0x5A, 5) := by
  decide +kernel

/-- V-M9. -/
theorem test_M9_jmp_ind :
    let t := ran [0x6C, 0x10, 0x00] (start (ram := [(0x0010, 0x34), (0x0011, 0x12)]))
    (t.cpu.pc, cost t) = (0x1234, 5) := by
  decide +kernel

/-- S3 (b), V-M10. -/
theorem test_M10_jmp_ind_page :
    let t := ran [0x6C, 0xFF, 0x02] (start (ram := [(0x02FF, 0x40), (0x0200, 0x80), (0x0300, 0x11)]))
    (t.cpu.pc, cost t) = (0x8040, 5) := by
  decide +kernel

/-- V-M11. -/
theorem test_M11_sty_zpx :
    let t := ran [0x94, 0xFF] (start (x := 0x02) (y := 0xCD))
    (t.wram.read 0x0001, cost t) = (0xCD, 4) := by
  decide +kernel

/-- V-M12. -/
theorem test_M12_beq_self :
    let t := ran [0xF0, 0xFE] (start (p := 0x26) (pc := 0x8000))
    (t.cpu.pc, cost t) = (0x8000, 3) := by
  decide +kernel

/-- V-M13: PC wraps past the instruction. -/
theorem test_M13_lda_abs_wrap :
    let t := ran [0xAD, 0x00, 0x00] (start (pc := 0xFFFE))
    t.cpu.pc = 0x0001 := by
  decide +kernel

/-- V-L1. -/
theorem test_L1_lda_imm :
    let t := ran [0xA9, 0x00] (start (a := 0x55))
    (t.cpu.a, packP t.cpu, cost t) = (0x00, 0x26, 2) := by
  decide +kernel

/-- V-L2. -/
theorem test_L2_lda_imm :
    let t := ran [0xA9, 0x80] start
    (t.cpu.a, packP t.cpu, cost t) = (0x80, 0xA4, 2) := by
  decide +kernel

/-- V-L3. -/
theorem test_L3_stx_zp :
    let t := ran [0x86, 0x10] (start (x := 0xAB))
    (t.wram.read 0x0010, packP t.cpu, cost t) = (0xAB, 0x24, 3) := by
  decide +kernel

/-- V-L4. -/
theorem test_L4_tax :
    let t := ran [0xAA] (start (a := 0x80))
    (t.cpu.x, packP t.cpu, cost t) = (0x80, 0xA4, 2) := by
  decide +kernel

/-- V-L5. -/
theorem test_L5_tay :
    let t := ran [0xA8] (start (y := 0x05))
    (t.cpu.y, packP t.cpu) = (0x00, 0x26) := by
  decide +kernel

/-- V-L6. -/
theorem test_L6_txa :
    let t := ran [0x8A] (start (x := 0x01))
    (t.cpu.a, packP t.cpu) = (0x01, 0x24) := by
  decide +kernel

/-- V-L7. -/
theorem test_L7_tya :
    let t := ran [0x98] (start (y := 0xFF))
    (t.cpu.a, packP t.cpu) = (0xFF, 0xA4) := by
  decide +kernel

/-- V-L8. -/
theorem test_L8_tsx :
    let t := ran [0xBA] (start (x := 0x07) (sp := 0x00))
    (t.cpu.x, packP t.cpu) = (0x00, 0x26) := by
  decide +kernel

/-- V-L9. -/
theorem test_L9_txs :
    let t := ran [0x9A] start
    (t.cpu.sp, packP t.cpu) = (0x00, 0x24) := by
  decide +kernel

/-- V-L12. -/
theorem test_L12_lda_io :
    let t := ran [0xAD, 0x17, 0x40] (start (a := 0x55))
    (t.cpu.a, packP t.cpu, cost t) = (0x00, 0x26, 4) := by
  decide +kernel

/-- V-L13, at another index register. -/
theorem test_L13_lda_sram :
    let t := ran [0xAE, 0x00, 0x60] (start (x := 0x55))
    (t.cpu.x, packP t.cpu, cost t) = (0x00, 0x26, 4) := by
  decide +kernel

/-- S1. -/
theorem test_S1_adc_imm :
    let t := ran [0x69, 0x50] (start (a := 0x50))
    (t.cpu.a, packP t.cpu, cost t) = (0xA0, 0xE4, 2) := by
  decide +kernel

/-- V-A4. -/
theorem test_A4_adc_imm :
    let t := ran [0x69, 0xFF] (start (p := 0x25))
    (t.cpu.a, packP t.cpu) = (0x00, 0x27) := by
  decide +kernel

/-- S2. -/
theorem test_S2_sbc_imm :
    let t := ran [0xE9, 0x01] (start (p := 0x25))
    (t.cpu.a, packP t.cpu, cost t) = (0xFF, 0xA4, 2) := by
  decide +kernel

/-- V-A5. -/
theorem test_A5_sbc_imm :
    let t := ran [0xE9, 0x01] (start (a := 0x80) (p := 0x25))
    (t.cpu.a, packP t.cpu) = (0x7F, 0x65) := by
  decide +kernel

/-- V-A8, the operand in zero page. -/
theorem test_A8_adc_zp_decimal :
    let t := ran [0x65, 0x10] (start (a := 0x09) (p := 0x2C) (ram := [(0x0010, 0x09)]))
    (t.cpu.a, packP t.cpu, cost t) = (0x12, 0x2C, 3) := by
  decide +kernel

/-- V-A9. -/
theorem test_A9_and_imm :
    let t := ran [0x29, 0x0F] (start (a := 0xF0))
    (t.cpu.a, packP t.cpu) = (0x00, 0x26) := by
  decide +kernel

/-- V-A10. -/
theorem test_A10_ora_imm :
    let t := ran [0x09, 0x80] (start (a := 0x01))
    (t.cpu.a, packP t.cpu) = (0x81, 0xA4) := by
  decide +kernel

/-- V-A11. -/
theorem test_A11_eor_imm :
    let t := ran [0x49, 0xFF] (start (a := 0xFF))
    (t.cpu.a, packP t.cpu) = (0x00, 0x26) := by
  decide +kernel

/-- V-A12. -/
theorem test_A12_cmp_imm :
    let t := ran [0xC9, 0x10] (start (a := 0x10))
    (t.cpu.a, packP t.cpu) = (0x10, 0x27) := by
  decide +kernel

/-- V-A14. -/
theorem test_A14_cmp_imm :
    let t := ran [0xC9, 0x90] (start (a := 0x10))
    packP t.cpu = 0xA4 := by
  decide +kernel

/-- V-A15. -/
theorem test_A15_cpx_imm :
    let t := ran [0xE0, 0x00] (start (x := 0x80))
    packP t.cpu = 0xA5 := by
  decide +kernel

/-- V-A16. -/
theorem test_A16_cpy_imm :
    let t := ran [0xC0, 0xFF] start
    packP t.cpu = 0x24 := by
  decide +kernel

/-- V-A17. -/
theorem test_A17_bit_zp :
    let t := ran [0x24, 0x10] (start (a := 0x01) (ram := [(0x0010, 0xC0)]))
    packP t.cpu = 0xE6 := by
  decide +kernel

/-- V-A18. -/
theorem test_A18_bit_zp :
    let t := ran [0x24, 0x10] (start (a := 0x41) (p := 0xE6) (ram := [(0x0010, 0x41)]))
    packP t.cpu = 0x64 := by
  decide +kernel

/-- V-S1. -/
theorem test_S1_asl_acc :
    let t := ran [0x0A] (start (a := 0x81))
    (t.cpu.a, packP t.cpu) = (0x02, 0x25) := by
  decide +kernel

/-- V-S2. -/
theorem test_S2_lsr_acc :
    let t := ran [0x4A] (start (a := 0x01))
    (t.cpu.a, packP t.cpu) = (0x00, 0x27) := by
  decide +kernel

/-- V-S3. -/
theorem test_S3_rol_acc :
    let t := ran [0x2A] (start (a := 0x80))
    (t.cpu.a, packP t.cpu) = (0x00, 0x27) := by
  decide +kernel

/-- V-S4. -/
theorem test_S4_ror_acc :
    let t := ran [0x6A] (start (a := 0x01) (p := 0x25))
    (t.cpu.a, packP t.cpu) = (0x80, 0xA5) := by
  decide +kernel

/-- V-S6. -/
theorem test_S6_asl_zp :
    let t := ran [0x06, 0x10] (start (ram := [(0x0010, 0x40)]))
    (t.wram.read 0x0010, packP t.cpu, cost t) = (0x80, 0xA4, 5) := by
  decide +kernel

/-- V-S7. -/
theorem test_S7_inc_zp :
    let t := ran [0xE6, 0x10] (start (ram := [(0x0010, 0xFF)]))
    (t.wram.read 0x0010, packP t.cpu, cost t) = (0x00, 0x26, 5) := by
  decide +kernel

/-- V-S8. -/
theorem test_S8_dec_zp :
    let t := ran [0xC6, 0x10] start
    (t.wram.read 0x0010, packP t.cpu, cost t) = (0xFF, 0xA4, 5) := by
  decide +kernel

/-- V-S9. -/
theorem test_S9_inx :
    let t := ran [0xE8] (start (x := 0x7F))
    (t.cpu.x, packP t.cpu) = (0x80, 0xA4) := by
  decide +kernel

/-- V-S10. -/
theorem test_S10_iny :
    let t := ran [0xC8] (start (y := 0xFF))
    (t.cpu.y, packP t.cpu) = (0x00, 0x26) := by
  decide +kernel

/-- V-S11. -/
theorem test_S11_dex :
    let t := ran [0xCA] start
    (t.cpu.x, packP t.cpu) = (0xFF, 0xA4) := by
  decide +kernel

/-- V-S12. -/
theorem test_S12_dey :
    let t := ran [0x88] (start (y := 0x01))
    (t.cpu.y, packP t.cpu) = (0x00, 0x26) := by
  decide +kernel

/-- V-S13. -/
theorem test_S13_inc_io :
    let t := ran [0xEE, 0x00, 0x40] start
    (packP t.cpu, cost t) = (0x24, 6) := by
  decide +kernel

/-- V-J1. -/
theorem test_J1_bne :
    let t := ran [0xD0, 0x05] start
    (t.cpu.pc, cost t) = (0x0407, 3) := by
  decide +kernel

/-- V-J2. -/
theorem test_J2_bne :
    let t := ran [0xD0, 0x05] (start (p := 0x26))
    (t.cpu.pc, cost t) = (0x0402, 2) := by
  decide +kernel

/-- V-J3. -/
theorem test_J3_beq :
    let t := ran [0xF0, 0x10] (start (p := 0x26) (pc := 0x04FD))
    (t.cpu.pc, cost t) = (0x050F, 4) := by
  decide +kernel

/-- V-J4. -/
theorem test_J4_bcc :
    let t := ran [0x90, 0xFE] start
    (t.cpu.pc, cost t) = (0x0400, 3) := by
  decide +kernel

/-- V-J5. -/
theorem test_J5_bcs :
    let t := ran [0xB0, 0x80] (start (p := 0x25))
    (t.cpu.pc, cost t) = (0x0382, 4) := by
  decide +kernel

/-- V-J6. -/
theorem test_J6_bpl :
    let t := ran [0x10, 0xFB] (start (pc := 0x0402))
    (t.cpu.pc, cost t) = (0x03FF, 4) := by
  decide +kernel

/-- V-J7. -/
theorem test_J7_bmi :
    let t := ran [0x30, 0x7F] (start (p := 0xA4))
    (t.cpu.pc, cost t) = (0x0481, 3) := by
  decide +kernel

/-- V-J8. -/
theorem test_J8_bvc :
    let t := ran [0x50, 0x01] (start (p := 0x64))
    (t.cpu.pc, cost t) = (0x0402, 2) := by
  decide +kernel

/-- V-J9. -/
theorem test_J9_bvs :
    let t := ran [0x70, 0x01] (start (p := 0x64))
    (t.cpu.pc, cost t) = (0x0403, 3) := by
  decide +kernel

/-- V-J10. -/
theorem test_J10_jmp_abs :
    let t := ran [0x4C, 0x00, 0x05] start
    (t.cpu.pc, cost t) = (0x0500, 3) := by
  decide +kernel

/-- V-J11. -/
theorem test_J11_jsr :
    let t := ran [0x20, 0x00, 0x05] start
    (t.wram.read 0x01FD, t.wram.read 0x01FC, t.cpu.sp, t.cpu.pc, cost t) = (0x04, 0x02, 0xFB, 0x0500, 6) := by
  decide +kernel

/-- V-J12. -/
theorem test_J12_jsr :
    let t := ran [0x20, 0x00, 0x05] (start (sp := 0x00))
    (t.wram.read 0x0100, t.wram.read 0x01FF, t.cpu.sp) = (0x04, 0x02, 0xFE) := by
  decide +kernel

/-- V-J13. -/
theorem test_J13_rts :
    let t := ran [0x60] (start (sp := 0xFB) (ram := [(0x01FC, 0x02), (0x01FD, 0x04)]))
    (t.cpu.pc, t.cpu.sp, cost t) = (0x0403, 0xFD, 6) := by
  decide +kernel

/-- V-J14. -/
theorem test_J14_rts :
    let t := ran [0x60] (start (ram := [(0x01FE, 0xFF), (0x01FF, 0xFF)]))
    (t.cpu.pc, t.cpu.sp) = (0x0000, 0xFF) := by
  decide +kernel

/-- V-J15. -/
theorem test_J15_rti :
    let t := ran [0x40] (start (sp := 0xFA) (ram := [(0x01FB, 0xFF), (0x01FC, 0x34), (0x01FD, 0x12)]))
    (packP t.cpu, t.cpu.pc, t.cpu.sp, cost t) = (0xEF, 0x1234, 0xFD, 6) := by
  decide +kernel

/-- V-F1. -/
theorem test_F1_pha :
    let t := ran [0x48] (start (a := 0x42) (sp := 0x00))
    (t.wram.read 0x0100, t.cpu.sp, cost t) = (0x42, 0xFF, 3) := by
  decide +kernel

/-- V-F2. -/
theorem test_F2_pla :
    let t := ran [0x68] (start (sp := 0xFF) (ram := [(0x0100, 0x80)]))
    (t.cpu.a, packP t.cpu, t.cpu.sp, cost t) = (0x80, 0xA4, 0x00, 4) := by
  decide +kernel

/-- V-F3. -/
theorem test_F3_php :
    let t := ran [0x08] start
    (t.wram.read 0x01FD, t.cpu.sp, packP t.cpu) = (0x34, 0xFC, 0x24) := by
  decide +kernel

/-- V-F4. -/
theorem test_F4_php :
    let t := ran [0x08] (start (p := 0xEF))
    t.wram.read 0x01FD = 0xFF := by
  decide +kernel

/-- V-F5. -/
theorem test_F5_plp :
    let t := ran [0x28] (start (sp := 0xFC) (ram := [(0x01FD, 0xFF)]))
    (packP t.cpu, t.cpu.sp) = (0xEF, 0xFD) := by
  decide +kernel

/-- V-F6. -/
theorem test_F6_plp :
    let t := ran [0x28] (start (sp := 0xFC))
    (packP t.cpu, t.cpu.sp) = (0x20, 0xFD) := by
  decide +kernel

/-- V-F7. -/
theorem test_F7_clc :
    let t := ran [0x18] (start (p := 0x25))
    packP t.cpu = 0x24 := by
  decide +kernel

/-- V-F7. -/
theorem test_F7_sec :
    let t := ran [0x38] start
    packP t.cpu = 0x25 := by
  decide +kernel

/-- V-F8. -/
theorem test_F8_cli :
    let t := ran [0x58] start
    packP t.cpu = 0x20 := by
  decide +kernel

/-- V-F8. -/
theorem test_F8_sei :
    let t := ran [0x78] (start (p := 0x20))
    packP t.cpu = 0x24 := by
  decide +kernel

/-- V-F9. -/
theorem test_F9_cld :
    let t := ran [0xD8] (start (p := 0x2C))
    packP t.cpu = 0x24 := by
  decide +kernel

/-- V-F9. -/
theorem test_F9_sed :
    let t := ran [0xF8] start
    packP t.cpu = 0x2C := by
  decide +kernel

/-- V-F10. -/
theorem test_F10_clv :
    let t := ran [0xB8] (start (p := 0x64))
    packP t.cpu = 0x24 := by
  decide +kernel

/-- V-F11. -/
theorem test_F11_nop :
    let t := ran [0xEA] (start (a := 0x42) (p := 0xEF))
    (t.cpu.a, packP t.cpu, t.cpu.pc, cost t) = (0x42, 0xEF, 0x0401, 2) := by
  decide +kernel

/-- V-U3. -/
theorem test_U3_lax_zp :
    let t := ran [0xA7, 0x10] (start (ram := [(0x0010, 0x80)]))
    (t.cpu.a, t.cpu.x, packP t.cpu, cost t) = (0x80, 0x80, 0xA4, 3) := by
  decide +kernel

/-- V-U4. -/
theorem test_U4_sax_zp :
    let t := ran [0x87, 0x10] (start (a := 0xF0) (x := 0x3C))
    (t.wram.read 0x0010, packP t.cpu, cost t) = (0x30, 0x24, 3) := by
  decide +kernel

/-- V-U5. -/
theorem test_U5_usbc_imm :
    let t := ran [0xEB, 0x01] (start (p := 0x25))
    (t.cpu.a, packP t.cpu) = (0xFF, 0xA4) := by
  decide +kernel

/-- V-U6. -/
theorem test_U6_dcp_zp :
    let t := ran [0xC7, 0x10] (start (a := 0x05) (ram := [(0x0010, 0x06)]))
    (t.wram.read 0x0010, packP t.cpu, cost t) = (0x05, 0x27, 5) := by
  decide +kernel

/-- V-U7. -/
theorem test_U7_isb_zp :
    let t := ran [0xE7, 0x10] (start (a := 0x05) (p := 0x25) (ram := [(0x0010, 0x04)]))
    (t.wram.read 0x0010, t.cpu.a, packP t.cpu, cost t) = (0x05, 0x00, 0x27, 5) := by
  decide +kernel

/-- V-U8. -/
theorem test_U8_slo_zp :
    let t := ran [0x07, 0x10] (start (a := 0x01) (ram := [(0x0010, 0x81)]))
    (t.wram.read 0x0010, t.cpu.a, packP t.cpu, cost t) = (0x02, 0x03, 0x25, 5) := by
  decide +kernel

/-- V-U9. -/
theorem test_U9_rla_zp :
    let t := ran [0x27, 0x10] (start (a := 0xFF) (p := 0x25) (ram := [(0x0010, 0x80)]))
    (t.wram.read 0x0010, t.cpu.a, packP t.cpu, cost t) = (0x01, 0x01, 0x25, 5) := by
  decide +kernel

/-- V-U10. -/
theorem test_U10_sre_zp :
    let t := ran [0x47, 0x10] (start (a := 0x0F) (ram := [(0x0010, 0x03)]))
    (t.wram.read 0x0010, t.cpu.a, packP t.cpu, cost t) = (0x01, 0x0E, 0x25, 5) := by
  decide +kernel

/-- V-U11. -/
theorem test_U11_rra_zp :
    let t := ran [0x67, 0x10] (start (a := 0x10) (ram := [(0x0010, 0x03)]))
    (t.wram.read 0x0010, t.cpu.a, packP t.cpu, cost t) = (0x01, 0x12, 0x24, 5) := by
  decide +kernel

/-- V-U12. -/
theorem test_U12_unop_absx :
    let t := ran [0x1C, 0xF0, 0x02] (start (x := 0x20))
    (t.cpu.pc, packP t.cpu, cost t) = (0x0403, 0x24, 5) := by
  decide +kernel

/-- V-U13. -/
theorem test_U13_unop_imm :
    let t := ran [0x80, 0x55] start
    (t.cpu.pc, cost t) = (0x0402, 2) := by
  decide +kernel

/-- V-U14. -/
theorem test_U14_dcp_absy :
    let t := ran [0xDB, 0x00, 0x03] (start (a := 0x05) (y := 0x01) (ram := [(0x0301, 0x06)]))
    (t.wram.read 0x0301, packP t.cpu, cost t) = (0x05, 0x27, 7) := by
  decide +kernel

/-- A state whose IRQ/BRK vector is 0x8000 and whose NMI vector is 0x8009, as in vector V-J16 and program P5. -/
def withVectors (s : State) : State :=
  { s with cart := { s.cart with prg := [(0x7FFA, 0x09), (0x7FFB, 0x80), (0x7FFF, 0x80)] } }

/-- V-J16. -/
theorem test_J16_brk :
    let t := ran [0x00] (withVectors start)
    (t.wram.read 0x01FD, t.wram.read 0x01FC, t.wram.read 0x01FB, t.cpu.sp, t.cpu.i, t.cpu.pc, cost t) =
      (0x04, 0x02, 0x34, 0xFA, true, 0x8000, 7) := by decide +kernel

/-- V-J17. -/
theorem test_J17_brk :
    let t := ran [0x00] (withVectors (start (p := 0x20)))
    (t.wram.read 0x01FB, packP t.cpu) = (0x30, 0x24) := by decide +kernel

/-- The fatal condition an instruction raises, and the cycles in the state it leaves. -/
def fatalOf (r : Host.Outcome State Fault Refusal) : Option (Fatal × Option Fatal × Nat) :=
  match r with
  | .fault (.fatal f t) => some (f, t.fault, t.cpu.cycles)
  | .fault (.halted _) | .next _ | .refused _ => none

/-- V-L10, V-I9: a store to program ROM is fatal, and the cycles stay as they were. -/
theorem test_L10_sta_rom :
    fatalOf (exec (.staAbs 0x8000) start) =
      (let f := Fatal.unimplemented .programRom 0x8000 (some 0x00)
       some (f, some f, 100)) := by decide +kernel

/-- V-L11: a load from the expansion area is fatal. -/
theorem test_L11_lda_expansion :
    fatalOf (exec (.ldaAbs 0x5000) start) =
      some (.unimplemented .expansion 0x5000 none, some (.unimplemented .expansion 0x5000 none), 100) := by
  decide +kernel

/-- V-L14 with four of its bytes: OAM DMA from page 2, the destination wrapping at 256. -/
theorem test_L14_sta_dma :
    let s := start (a := 0x02) (ram := [(0x201, 0x01), (0x2EF, 0xEF), (0x2F0, 0xF0), (0x2FF, 0xFF)])
    let t := ran [0x8D, 0x14, 0x40] { s with ppu := { s.ppu with oamAddr := 0x10 } }
    (t.ppu.oam, t.ppu.oamAddr, cost t) = ([(0x00, 0xF0), (0x0F, 0xFF), (0x11, 0x01), (0xFF, 0xEF)], 0x10, 4) := by
  decide +kernel

/-- The state a step's fatal condition leaves. -/
def faultedIn (r : Host.Outcome State Fault Refusal) : State :=
  match r with
  | .fault (.fatal _ t) => t
  | .fault (.halted _) | .next _ | .refused _ => start

/-- PC at 0x401F, where a read gives `op` (rule R75) and the next byte is fatal (rule R78). -/
def beforeExpansion (op : Byte) : State :=
  let s := start (pc := 0x401F)
  { s with params := { s.params with ioReadValue := op } }

/-- Rules R153, R154, R157, R495: where PC stands when the first operand byte is fatal: LDA immediate, LDA zero page,
LDA absolute. -/
theorem test_R495_pc :
    [0xA9#8, 0xA5#8, 0xAD#8].map (fun op => (faultedIn (step (beforeExpansion op))).cpu.pc) =
      [0x4021, 0x401F, 0x401F] := by decide +kernel

/-- Rules R77, R78, R495: DMA from page 0x40 keeps the 32 bytes copied before its fatal read. -/
theorem test_R77_fatal_dma :
    let s := beforeExpansion 0x5A
    let s := { s with cpu := { s.cpu with a := 0x40 }, host := { s.host with controllerAnswers := [1] } }
    let t := faultedIn (exec (.staAbs 0x4014) s)
    ([0, 22, 31, 32].map t.ppu.oam.read, t.ppu.oamAddr, t.cpu.cycles) = ([0x5A, 0x01, 0x5A, 0x00], 0x00, 100) := by
  decide +kernel

/-- Rules R77, R357, R367: DMA from page 0x20 reads the status register and clears vblank. -/
theorem test_R77_register_dma :
    let s := start (a := 0x20)
    let t := ran [0x8D, 0x14, 0x40] { s with ppu := { s.ppu with vblank := true, sprite0Hit := true } }
    ([0, 2, 10, 255].map t.ppu.oam.read, t.ppu.vblank, t.ppu.v) = ([0x00, 0xC0, 0x40, 0x00], false, 32) := by
  decide +kernel

/-- V-S14: a read-modify-write of the status register. -/
theorem test_S14_inc_status :
    let s := start
    let t := ran [0xEE, 0x02, 0x20] { s with ppu := { s.ppu with vblank := true, w := true } }
    (t.ppu.vblank, t.ppu.w, packP t.cpu, cost t) = (false, false, 0xA4, 6) := by decide +kernel

/-! ### The two buses -/

/-- The byte a bus read gives and the state it leaves; 0 and the same state where it is fatal. -/
def readAt (s : State) (a : Word) : Byte × State :=
  match memRead s a with
  | .ok v t => (v, t)
  | .fatal _ _ => (0x00, s)

/-- The state a bus write leaves; the same state where it is fatal. -/
def writeAt (s : State) (a : Word) (v : Byte) : State :=
  match memWrite s a v with
  | .ok _ t => t
  | .fatal _ _ => s

/-- V-B1: 0x3456 is a mirror of 0x2006. -/
theorem test_B1_register_mirror :
    writeAt start 0x3456 0x80 = writeAt start 0x2006 0x80 ∧ (writeAt start 0x3456 0x80).ppu.w = true := by
  decide +kernel

/-- V-B2: 16 KB of program ROM appear twice. -/
theorem test_B2_program_rom :
    let s := { start with cart := { State.reset.cart with prg := [(0x0123, 0x77)], prgSize := .k16 } }
    ((readAt s 0xC123).1, (readAt s 0x8123).1) = (0x77, 0x77) := by decide +kernel

/-- V-B3, V-B4. -/
theorem test_B3_palette_index :
    [0x3F10, 0x3F14, 0x3F18, 0x3F1C, 0x3F25].map palIndex = [0x00, 0x04, 0x08, 0x0C, 0x05] := by decide

/-- V-B5. -/
theorem test_B5_horizontal : [0x2400, 0x2800, 0x2C05].map (ntMirror .horizontal) = [0x2000, 0x2400, 0x2405] := by decide

/-- V-B6, V-B7. -/
theorem test_B6_vertical :
    [0x2400, 0x2800, 0x2C05].map (ntMirror .vertical) = [0x2400, 0x2000, 0x2405] ∧
      ntMirror .fourScreen 0x2C05 = 0x2C05 := by decide

/-- V-B8, V-B9. -/
theorem test_B8_picture_aliases :
    let s := start
    let s := { s with ppu := { s.ppu with nametable := [(0x0005, 0x77)], palette := [(0x00, 0x21)] } }
    (ppuRead s 0x2005, ppuRead s 0x3005, ppuRead s 0x7F00) = (0x77, 0x77, 0x21) := by decide +kernel

/-- V-B10. -/
theorem test_B10_pattern_write :
    ppuWrite start 0x0100 0x5A = .fatal (.unimplemented .patternData 0x0100 (some 0x5A)) start := by decide +kernel

/-- S4, S5: round trips and mirrors. -/
theorem test_S5_ram_mirrors :
    let t := writeAt start 0x0801 0x5A
    ((readAt t 0x0001).1, (readAt t 0x1001).1, (readAt t 0x1801).1) = (0x5A, 0x5A, 0x5A) := by decide +kernel

/-- S6: Push16 and Pull16 around the end of the stack page. -/
theorem test_S6_stack :
    (match push16 (start (sp := 0x00)) 0xBEEF with
      | .ok _ t =>
        (t.wram.read 0x0100, t.wram.read 0x01FF, t.cpu.sp,
          match pull16 t with
          | .ok w u => (w, u.cpu.sp)
          | .fatal _ _ => (0, 0))
      | .fatal _ _ => (0, 0, 0, 0, 0)) = (0xBE, 0xEF, 0xFE, 0xBEEF, 0x00) := by decide +kernel

/-! ### The picture registers -/

/-- The start of the register vectors: everything 0. -/
def quiet : State := { start with ppu := { State.reset.ppu with dot := 0, frame := [], ticks := 300 } }

/-- V-P1. -/
theorem test_P1_ctrl :
    let t := writeAt quiet 0x2000 0x03
    (t.ppu.ctrl, t.ppu.t) = (0x03, 0x0C00) := by decide +kernel

/-- V-P2. -/
theorem test_P2_scroll :
    let t := writeAt quiet 0x2005 0x7D
    let u := writeAt t 0x2005 0x5E
    (t.ppu.t, t.ppu.x, t.ppu.w, u.ppu.t, u.ppu.w) = (0x000F, 5, true, 0x616F, false) := by decide +kernel

/-- V-P3. -/
theorem test_P3_addr :
    let t := writeAt quiet 0x2006 0x3F
    let u := writeAt t 0x2006 0x10
    (t.ppu.t, t.ppu.w, u.ppu.t, u.ppu.v, u.ppu.w) = (0x3F00, true, 0x3F10, 0x3F10, false) := by decide +kernel

/-- V-P4. -/
theorem test_P4_addr :
    let t := writeAt quiet 0x2006 0xFF
    (t.ppu.t, t.ppu.w) = (0x3F00, true) := by decide +kernel

/-- V-P5. -/
theorem test_P5_status_resets_toggle :
    let t := writeAt (readAt (writeAt quiet 0x2005 0x08) 0x2002).2 0x2005 0x10
    (t.ppu.t, t.ppu.x, t.ppu.w) = (0x0002, 0, true) := by decide +kernel

/-- V-P6. -/
theorem test_P6_status :
    let r := readAt { quiet with ppu := { quiet.ppu with vblank := true, sprite0Hit := true, w := true } } 0x2002
    (r.1, r.2.ppu.vblank, r.2.ppu.sprite0Hit, r.2.ppu.w) = (0xC0, false, true, false) := by decide +kernel

/-- V-P8. -/
theorem test_P8_data_latency :
    let s := { quiet with
      cart := { quiet.cart with mirroring := .vertical }
      ppu := { quiet.ppu with nametable := [(0, 0xAA), (1, 0xBB)], v := 0x2000 } }
    let r1 := readAt s 0x2007
    let r2 := readAt r1.2 0x2007
    let r3 := readAt r2.2 0x2007
    (r1.1, r2.1, r3.1, r3.2.ppu.v) = (0x00, 0xAA, 0xBB, 0x2003) := by decide +kernel

/-- V-P9. -/
theorem test_P9_data_palette :
    let s := { quiet with
      cart := { quiet.cart with mirroring := .fourScreen }
      ppu := { quiet.ppu with nametable := [(0x0F01, 0x5C)], palette := [(1, 0x21)], v := 0x3F01 } }
    let r := readAt s 0x2007
    (r.1, r.2.ppu.readBuffer, r.2.ppu.v) = (0x21, 0x5C, 0x3F02) := by decide +kernel

/-- V-P10. -/
theorem test_P10_data_write :
    let s := { quiet with ppu := { quiet.ppu with ctrl := 0x04, v := 0x2000 } }
    let t := writeAt (writeAt s 0x2007 0x11) 0x2007 0x11
    (t.ppu.nametable, t.ppu.v) = ([(0x00, 0x11), (0x20, 0x11)], 0x2040) := by decide +kernel

/-- V-P11. -/
theorem test_P11_data_wrap :
    (readAt { quiet with ppu := { quiet.ppu with v := 0x7FFF } } 0x2007).2.ppu.v = 0x0000 := by decide +kernel

/-- V-P12. -/
theorem test_P12_oam :
    let t := writeAt { quiet with ppu := { quiet.ppu with oamAddr := 0xFF, oam := [(0, 0x33)] } } 0x2004 0x12
    let r := readAt t 0x2004
    (t.ppu.oam.read 0xFF, t.ppu.oamAddr, r.1, r.2.ppu.oamAddr) = (0x12, 0x00, 0x33, 0x00) := by decide +kernel

/-- V-P13, both settings of `NMI_ON_CTRL_ENABLE`. -/
theorem test_P13_nmi_on_enable :
    let s := { quiet with ppu := { quiet.ppu with vblank := true } }
    let u := { s with params := { s.params with nmiOnCtrlEnable := true } }
    ((writeAt s 0x2000 0x80).nmiPending, (writeAt u 0x2000 0x80).nmiPending) = (false, true) := by decide +kernel

/-! ### Rendering -/

/-- V-R1. -/
theorem test_R1_coarse_x :
    [0x0005, 0x001F, 0x041F, 0x7BFF].map coarseXNext = [0x0006, 0x0400, 0x0000, 0x7FE0] := by decide

/-- V-R2. -/
theorem test_R2_vertical :
    [0x0000, 0x6005, 0x7000, 0x73A5, 0x7BA5, 0x73E0, 0x7FE0].map verticalNext =
      [0x1000, 0x7005, 0x0020, 0x0805, 0x0005, 0x0000, 0x0C00] := by decide

/-- V-R3, V-R4. -/
theorem test_R3_copies :
    horizontalCopy 0x616F 0x0C15 = 0x6575 ∧ verticalCopy 0x041F 0x7BE0 = 0x7FFF := by decide

/-- V-R5. -/
theorem test_R5_addresses :
    [0x0000, 0x0146, 0x0FBF, 0x02C7].map nameTableAddr = [0x2000, 0x2146, 0x2FBF, 0x22C7] ∧
      [0x0000, 0x0146, 0x0FBF, 0x02C7].map (fun v => (attrAddr v, attrShift v)) =
        [(0x23C0, 0), (0x23D1, 6), (0x2FFF, 2), (0x23E9, 6)] := by decide

/-- V-R6. -/
theorem test_R6_pattern : patternAddr { quiet.ppu with ctrl := 0x10, ntLatch := 0x41, v := 0x3000 } = 0x1413 := by
  decide +kernel

/-- Sprite memory of vector V-R7: sprites 0-8 at Y = 0x20, the rest at Y = 0xFF. -/
def nineSprites : Memory :=
  Memory.ofCells 256 ((List.range 64).map fun n => (4 * n, if n < 9 then 0x20#8 else 0xFF#8))

/-- V-R7, S8. -/
theorem test_R7_ninth_sprite :
    let t := ppuTick { quiet with
      ppu := { quiet.ppu with mask := 0x18, oam := nineSprites, scanline := 32, dot := 65 } }
    (t.ppu.secondary.length, t.ppu.secondary.map SpriteEntry.isSprite0, t.ppu.spriteOverflow) =
      (8, [true, false, false, false, false, false, false, false], true) := by decide +kernel

/-- V-R8: an 8x8 sprite, then the same with vertical flip. -/
theorem test_R8_sprite_address :
    let p := { quiet.ppu with ctrl := 0x08, scanline := 0x23 }
    let e : SpriteEntry := { y := 0x20, tile := 0x41, attr := 0x00, x := 0x00, isSprite0 := false }
    (spriteAddr p e, spriteAddr p { e with attr := 0x80 }) = (0x1413, 0x1414) := by decide +kernel

/-- V-R9: an 8x16 sprite, then the same with vertical flip. -/
theorem test_R9_tall_sprite_address :
    let p := { quiet.ppu with ctrl := 0x20, scanline := 0x29 }
    let e : SpriteEntry := { y := 0x20, tile := 0x03, attr := 0x00, x := 0x00, isSprite0 := false }
    (spriteAddr p e, spriteAddr p { e with attr := 0x80 }) = (0x1031, 0x1026) := by decide +kernel

/-- V-R10. -/
theorem test_R10_flip : reverse8 0x01 = 0x80 ∧ reverse8 0x6E = 0x76 := by decide

/-- V-R11 to V-R14. -/
theorem test_R11_priority :
    [(paletteMux 1 2 3 1 false false).1, (paletteMux 1 2 3 1 true false).1, (paletteMux 0 0 0 0 false false).1,
      (paletteMux 0 0 2 3 false false).1] = [0x3F17, 0x3F09, 0x3F00, 0x3F1E] := by decide

/-- V-R15. -/
theorem test_R15_colour :
    let s := { quiet with ppu := { quiet.ppu with palette := [(0, 0xE5)] } }
    ((pixelColour s 0x3F10).index, (pixelColour { s with ppu := { s.ppu with mask := 0x01 } } 0x3F10).index) =
      (0x25, 0x20) := by decide +kernel

/-- An opaque background pixel and a sprite-zero unit at `x` (vectors V-R16 to V-R18). -/
def hitScene (x : Byte) (mask : Byte) (dot : Nat) : State :=
  { quiet with ppu := { quiet.ppu with
      mask := mask, scanline := 17, dot := dot, bgLo := 0xFFFF, bgHi := 0xFFFF
      units :=
        [{ x := x, patternLo := 0xFF, patternHi := 0xFF, palette := 0, behindBg := false, isSprite0 := true }] } }

/-- V-R16: the hit at column 32 and none one column before. -/
theorem test_R16_hit :
    ((ppuTick (hitScene 0x20 0x1E 33)).ppu.sprite0Hit, (ppuTick (hitScene 0x20 0x1E 32)).ppu.sprite0Hit) =
      (true, false) := by decide +kernel

/-- V-R17, V-R18: no hit at column 255, none in the hidden columns. -/
theorem test_R17_no_hit :
    ((ppuTick (hitScene 0xFF 0x1E 256)).ppu.sprite0Hit, (ppuTick (hitScene 0x00 0x18 8)).ppu.sprite0Hit) =
      (false, false) := by decide +kernel

/-- V-R19: the odd frame goes from (261, 339) to (0, 0). -/
theorem test_R19_skip :
    let t := ppuTick { quiet with ppu := { quiet.ppu with scanline := 261, dot := 339, oddFrame := true } }
    let u := ppuTick { quiet with ppu := { quiet.ppu with scanline := 261, dot := 339, oddFrame := false } }
    (t.ppu.scanline, t.ppu.dot, t.ppu.oddFrame, u.ppu.dot) = (0, 0, false, 340) := by decide +kernel

/-- V-R20. -/
theorem test_R20_disabled :
    let t := ppuTick { quiet with
      ppu := { quiet.ppu with scanline := 5, dot := 10, palette := [(0, 0x0F)], bgLo := 1 } }
    (frameGet t.ppu.frame 5 9, t.ppu.bgLo) = (some { index := 0x0F, emphasis := 0 }, 1) := by decide +kernel

/-! ### Interrupts, driver, reset -/

/-- The state after one driver step; the same state where it does not complete. -/
def stepped (s : State) : State :=
  match step s with
  | .next t => t
  | .fault _ | .refused _ => s

/-- V-F12: the IRQ that CLI lets through at once. -/
theorem test_F12_cli_irq :
    let s := withVectors (start (ram := [(0x400, 0x58)]))
    let t := stepped { s with host := { s.host with irqLevels := [true] } }
    (t.wram.read 0x01FD, t.wram.read 0x01FC, t.wram.read 0x01FB, t.cpu.sp) = (0x04, 0x01, 0x30, 0xFA) ∧
      (t.cpu.i, t.cpu.pc, cost t, t.ppu.dot) = (true, 0x8000, 9, 48) := by decide +kernel

/-- V-I3: vblank in the ticks of a NOP, and the NMI after it. -/
theorem test_I3_nmi :
    let s := withVectors (start (ram := [(0x400, 0xEA)]))
    let t := stepped { s with ppu := { s.ppu with ctrl := 0x80, scanline := 240, dot := 340 } }
    (t.ppu.vblank, t.nmiPending, t.wram.read 0x01FB, t.cpu.pc, cost t, t.ppu.dot) =
      (true, false, 0x34, 0x8009, 9, 26) := by decide +kernel

/-- V-I4: the NMI first; the IRQ waits. -/
theorem test_I4_nmi_before_irq :
    let s := withVectors (start (p := 0x20) (ram := [(0x400, 0xEA)]))
    let t := stepped { s with nmiPending := true, host := { s.host with irqLevels := [true] } }
    (t.cpu.pc, t.cpu.i, t.nmiPending) = (0x8009, true, false) := by decide +kernel

/-- V-I5: `INT_PUSH_B = 0`. -/
theorem test_I5_push_b :
    let s := start (p := 0x20)
    interruptStatus { s with params := { s.params with intPushB := false } } = 0x20 := by decide +kernel

/-- V-I6: an NMI and the RTI that returns from it. -/
theorem test_I6_nmi_rti :
    let s := withVectors (start (p := 0xA4) (pc := 0x8006))
    let t := match interruptEntry s nmiVector with
      | .ok _ t => t
      | .fatal _ _ => s
    let u := ran [0x40] t
    (t.wram.read 0x01FD, t.wram.read 0x01FC, t.wram.read 0x01FB, t.cpu.sp, packP u.cpu, u.cpu.pc) =
      (0x80, 0x06, 0xB4, 0xFA, 0xA4, 0x8006) := by decide +kernel

/-- V-I1, V-I2: power-on with a reset vector, and with a fixed start. -/
theorem test_I1_power_on :
    let cart := { State.reset.cart with prg := [(0x7FFD, 0x80)] }
    let t := powerOn cart defaultParams .vector .zero silentHost
    let u := powerOn cart defaultParams (.fixed 0xC000) .zero silentHost
    (t.cpu.a, t.cpu.sp, packP t.cpu, t.cpu.pc) = (0x00, 0xFD, 0x24, 0x8000) ∧
      (t.cpu.cycles, t.ppu.scanline, t.ppu.dot, u.cpu.pc) = (7, 0, 21, 0xC000) := by decide +kernel

/-- V-I10. -/
theorem test_I10_load_refused :
    let inputs : HostInputs :=
      { record := { goodRecord with mapper := 1 }, params := defaultParams, resetPc := .vector, ram := .zero,
        controllerAnswers := [], irqLevels := [] }
    (match load inputs with
      | .ok _ => none
      | .error f => some f) = some (.romFormat .mapper) := by decide

/-- Rule R504: the record of program P1's first boundary. -/
theorem test_P1_trace :
    traceRecord { start (pc := 0x8000) with cart := { State.reset.cart with prg := [(0, 0xA9), (0x7FFD, 0x80)] } } =
      { pc := 0x8000, opcode := some 0xA9, a := 0x00, x := 0x00, y := 0x00, p := 0x24, sp := 0xFD, cycles := 100 } := by
  decide +kernel

/-- Rules R14, R129: program P1's `BNE $8004` at 0x800A. -/
theorem test_P1_assembler :
    assemblerText 0x800A (.bne 0xF8) = "BNE $8004" ∧ branchDisplacement 0x800A 0x8004 = some 0xF8 := by decide +kernel

/-! ### Witnesses: the hypotheses of the obligations can be met -/

/-- A step answers a next state. -/
def completes (r : Host.Outcome State Fault Refusal) : Bool :=
  match r with
  | .next _ => true
  | .fault _ | .refused _ => false

/-- From a run that answers a next state, that state. -/
theorem completes_iff (r : Host.Outcome State Fault Refusal) (h : completes r = true) : ∃ t, r = .next t := by
  cases r with
  | next t => exact ⟨t, rfl⟩
  | fault => cases h
  | refused => cases h

/-- EncodeOfDecode. -/
theorem witness_decode : decode .none [0xA9, 0x42, 0x00] = .ok (.ldaImm 0x42, [0x00]) := rfl

/-- UnmappedOpcodes: a fetch of an opcode without a row. -/
theorem witness_unmapped :
    let s := start (ram := [(0x400, 0x02)])
    s.fault = none ∧ memRead s s.cpu.pc = .ok 0x02 s ∧ formOf s.params.unofficial 0x02 = none := by decide +kernel

/-- A state with LDA #$42 at PC. -/
def ldaState : State := start (ram := [(0x400, 0xA9), (0x401, 0x42)])

/-- UnmappedOpcodes, StepRunsInstruction: an instruction at PC, and it completes. -/
theorem witness_step :
    ldaState.fault = none ∧ (Instr.ldaImm 0x42).wellFormed ldaState.params.unofficial = true ∧
      holds ldaState ldaState.cpu.pc (encode (.ldaImm 0x42)) ∧ ∃ t, exec (.ldaImm 0x42) ldaState = .next t :=
  ⟨by decide +kernel, by decide +kernel, ⟨by decide +kernel, by decide +kernel, trivial⟩,
    completes_iff _ (by decide +kernel)⟩

/-- StepRunsInstruction, FaultedStateIsFinal: an instruction at PC that faults, and the step that runs it. -/
theorem witness_step_fault :
    let s := start (ram := [(0x400, 0x8D), (0x401, 0x00), (0x402, 0x80)])
    s.fault = none ∧ holds s s.cpu.pc (encode (.staAbs 0x8000)) ∧
      (∃ f, exec (.staAbs 0x8000) s = .fault f) ∧ ∃ f t, step s = .fault (.fatal f t) :=
  ⟨by decide +kernel, ⟨by decide +kernel, by decide +kernel, by decide +kernel, trivial⟩, ⟨_, rfl⟩, ⟨_, _, rfl⟩⟩

/-- FaultedStateIsFinal: a fatal opcode fetch, and fatal operand bytes after an opcode in the IO block. -/
theorem witness_fetch_fatal :
    (∃ f t, memRead (start (pc := 0x5000)) 0x5000 = .fatal f t) ∧
      memRead (beforeExpansion 0xA9) 0x401F = .ok 0xA9 (beforeExpansion 0xA9) ∧
      formOf (beforeExpansion 0xA9).params.unofficial 0xA9 = some (.byte .ldaImm) ∧
      modeOf (Instr.ldaImm 0x00).operand = .imm ∧ modeOf (Instr.ldaZp 0x00).operand ≠ .imm ∧
      (∃ f t, memRead (beforeExpansion 0xA9) 0x4020 = .fatal f t) ∧
      formOf (beforeExpansion 0xAD).params.unofficial 0xAD = some (.word .ldaAbs) ∧
      ∃ f t, memRead16 (beforeExpansion 0xAD) 0x4020 = .fatal f t :=
  ⟨⟨_, _, rfl⟩, by decide +kernel, rfl, rfl, by decide, ⟨_, _, rfl⟩, rfl, ⟨_, _, rfl⟩⟩

/-- FaultedStateIsFinal: a state whose fault is set. -/
theorem witness_halted :
    ({ start with fault := some (.unmappedOpcode 0x02 0x0400) } : State).fault = some (.unmappedOpcode 0x02 0x0400) := rfl

/-- EffectiveAddresses: an address for each mode that has one; the pointer of vector V-M6; the reads of vector V-M10. -/
theorem witness_effective :
    let s := start (x := 0x20) (y := 0x10)
      (ram := [(0x00, 0x02), (0xFF, 0xF8), (0x2FF, 0x40), (0x200, 0x80)])
    operandAddr s (.zp 0xFF) = some 0x00FF ∧ operandAddr s (.zpx 0xF0) = some 0x0010 ∧
      operandAddr s (.zpy 0xF0) = some 0x0000 ∧ operandAddr s (.abs 0xFFFF) = some 0xFFFF ∧
      operandAddr s (.absx 0x02F0) = some 0x0310 ∧ operandAddr s (.absy 0xFFF0) = some 0x0000 ∧
      operandAddr s (.indx 0xDF) = some 0x02F8 ∧ operandAddr s (.indy 0xFF) = some 0x0308 ∧
      memRead s 0x02FF = .ok 0x40 s ∧ memRead s (samePageNext 0x02FF) = .ok 0x80 s := by decide +kernel

/-- EveryInstructionCompletes: a read-modify-write, at the ends of the readable and writable ranges. -/
theorem witness_completes :
    let s := start
    (loading (.incAbs 0x7FFF) = true ∧ operandAddr s (Instr.incAbs 0x7FFF).operand = some 0x7FFF ∧ readable 0x7FFF ∧
      storeAddr s (.incAbs 0x7FFF) = some 0x7FFF ∧ writable 0x7FFF) ∧
    readable 0x401F ∧ ¬ readable 0x4020 ∧ ¬ readable 0x5FFF ∧ readable 0x6000 ∧ writable 0x1FFF ∧ writable 0x2006 ∧
      ¬ writable 0x2007 ∧ writable 0x4000 ∧ writable 0x4016 ∧ ¬ writable 0x4014 ∧ ¬ writable 0x4020 ∧ writable 0x6000 ∧
      ¬ writable 0x8000 ∧ readable (samePageNext 0x02FF) := by
  refine ⟨⟨rfl, rfl, ?_, rfl, ?_⟩, ?_⟩ <;> simp [readable, writable, ramAddr, samePageNext]

/-- CpuBusMap: what the first and last address of each range reads as. -/
theorem witness_bus_ranges :
    let s := start (ram := [(0x0000, 0x11), (0x07FF, 0x22)])
    let s := { s with
      sram := [(0x0000, 0x33), (0x1FFF, 0x44)]
      cart := { s.cart with prg := [(0x0000, 0x55), (0x7FFF, 0x66)] }
      params := { s.params with ioReadValue := 0x77, ppuOpenBus := 0x88 } }
    [0x0000, 0x1FFF, 0x2000, 0x3FF8, 0x4000, 0x401F, 0x6000, 0x7FFF, 0x8000, 0xFFFF].map (fun a => (readAt s a).1) =
        [0x11, 0x22, 0x88, 0x88, 0x77, 0x77, 0x33, 0x44, 0x55, 0x66] ∧
      memRead s 0x4020 = .fatal (.unimplemented .expansion 0x4020 none) s ∧
      memRead s 0x5FFF = .fatal (.unimplemented .expansion 0x5FFF none) s := by decide +kernel

/-- ControllerPort: an answer waiting, and none. -/
theorem witness_controller :
    let s := start
    let u := { s with host := { s.host with controllerAnswers := [1, 0] } }
    u.host.controllerAnswers = 1 :: [0] ∧ s.host.controllerAnswers = [] ∧ (readAt u 0x4016).1 = 0x01 := by
  decide +kernel

/-- Memories in canonical form: the hypothesis of the round trips. -/
theorem witness_memories : MemoriesWf ldaState := by
  unfold MemoriesWf
  decide +kernel

/-- RamRoundTrip, MemoryFrame: the ends of the two RAMs, one byte under two addresses, two bytes. -/
theorem witness_ram :
    ramAddr 0x0000 ∧ ramAddr 0x1FFF ∧ ¬ ramAddr 0x2000 ∧ ¬ ramAddr 0x5FFF ∧ ramAddr 0x6000 ∧ ramAddr 0x7FFF ∧
      ¬ ramAddr 0x8000 ∧ sameRamByte 0x07FF 0x1FFF ∧ ¬ sameRamByte 0x07FF 0x0800 ∧ sameRamByte 0x7FFF 0x7FFF ∧
      ¬ sameRamByte 0x6000 0x6800 := by simp [ramAddr, sameRamByte]

/-- PaletteRoundTrip: both ends of the palette window, and above the 14-bit range. -/
theorem witness_palette :
    0x3F00 ≤ 0x3F00 % 0x4000 ∧ 0x3F00 ≤ 0x3FFF % 0x4000 ∧ 0x3F00 ≤ 0x7F00 % 0x4000 ∧
      palIndex 0x3F1C = palIndex 0x3F0C ∧ palIndex 0x3F1D ≠ palIndex 0x3F0D := by decide

/-- PictureBusMap: one name-table byte under two addresses for each mirroring, and two bytes. -/
theorem witness_nametable :
    sameNametableByte .horizontal 0x2000 0x2400 ∧ ¬ sameNametableByte .horizontal 0x2000 0x2800 ∧
      sameNametableByte .vertical 0x23FF 0x2BFF ∧ ¬ sameNametableByte .vertical 0x2000 0x2400 ∧
      ¬ sameNametableByte .fourScreen 0x2FFF 0x2BFF := by simp [sameNametableByte, physicalTable]

/-- OamDmaCopies: the last page of work RAM and the first of static RAM; the pages of the picture registers; the fatal
pages. The memories are witness_memories. -/
theorem witness_dma :
    ((0x1F#8).toNat < 0x20 ∨ 0x60 ≤ (0x1F#8).toNat) ∧ ((0x60#8).toNat < 0x20 ∨ 0x60 ≤ (0x60#8).toNat) ∧
      (0x20 ≤ (0x20#8).toNat ∧ (0x20#8).toNat < 0x40) ∧ (0x20 ≤ (0x3F#8).toNat ∧ (0x3F#8).toNat < 0x40) ∧
      (0x41 ≤ (0x41#8).toNat ∧ (0x41#8).toNat < 0x60) ∧ 0x41 ≤ (0x5F#8).toNat ∧ (0x5F#8).toNat < 0x60 := by decide

/-- The register statements: each register at its address and at its last mirror. -/
theorem witness_registers :
    ∀ r, r < 8 → pictureReg (BitVec.ofNat 16 (0x2000 + r)) r ∧ pictureReg (BitVec.ofNat 16 (0x3FF8 + r)) r := by
  unfold pictureReg
  decide

/-- ScrollAddressPorts: the toggle in both positions. -/
theorem witness_toggle : quiet.ppu.w = false ∧ ({ quiet.ppu with w := true } : Ppu).w = true := by decide +kernel

/-- DataPort: the last address below the palette and the first of it; a write that works and one that is fatal. -/
theorem witness_data_port :
    (0x3EFF#15).toNat % 0x4000 < 0x3F00 ∧ 0x3F00 ≤ (0x3F00#15).toNat % 0x4000 ∧
      (∃ t, ppuWrite quiet 0x2000 0x11 = .ok () t) ∧ ∃ f t, ppuWrite quiet 0x1FFF 0x11 = .fatal f t :=
  ⟨by decide, by decide, ⟨_, rfl⟩, ⟨_, _, rfl⟩⟩

/-- The statements over ReadsOperand, StoresValue and ModifiesOperand: operands that are read and written. -/
theorem witness_operands :
    Loads ldaState (.imm 0x42) 0x42 (past ldaState (.imm 0x42)) ∧
      Loads ldaState (.abs 0x0400) 0xA9 (past ldaState (.abs 0x0400)) ∧ Loads ldaState .acc 0x00 (past ldaState .acc) ∧
      (∃ t, Saves ldaState (.abs 0x0400) (past ldaState (.abs 0x0400)) 0x5A t) ∧
      ∃ t, Saves ldaState .acc (past ldaState .acc) 0x5A t :=
  ⟨⟨rfl, rfl⟩, ⟨0x0400, rfl, by decide +kernel⟩, ⟨by decide +kernel, rfl⟩, ⟨_, 0x0400, rfl, rfl⟩, ⟨_, rfl⟩⟩

/-- The same statements: operands whose read or write is fatal. -/
theorem witness_operands_fatal :
    (∃ f t, LoadFails ldaState (.abs 0x4020) f t) ∧
      ∃ f t, SaveFails ldaState (.abs 0x8000) (past ldaState (.abs 0x8000)) 0x5A f t :=
  ⟨⟨_, _, 0x4020, rfl, rfl⟩, ⟨_, _, 0x8000, rfl, rfl⟩⟩

/-- The statements over EveryForm: an opcode of each list. -/
theorem witness_forms :
    [opcodeOf (.ldaImm 0), opcodeOf (.ldxImm 0), opcodeOf (.ldyImm 0), opcodeOf (.laxZp 0), opcodeOf (.staZp 0),
      opcodeOf (.stxZp 0), opcodeOf (.styZp 0), opcodeOf (.saxZp 0), opcodeOf (.adcImm 0), opcodeOf (.sbcImm 0),
      opcodeOf (.usbcImm 0), opcodeOf (.andImm 0), opcodeOf (.oraImm 0), opcodeOf (.eorImm 0), opcodeOf (.cmpImm 0),
      opcodeOf (.cpxImm 0), opcodeOf (.cpyImm 0), opcodeOf (.bitZp 0), opcodeOf .aslAcc, opcodeOf .lsrAcc,
      opcodeOf .rolAcc, opcodeOf .rorAcc, opcodeOf (.incZp 0), opcodeOf (.decZp 0), opcodeOf (.unopZp04 0),
      opcodeOf (.dcpZp 0), opcodeOf (.isbZp 0), opcodeOf (.sloZp 0), opcodeOf (.rlaZp 0), opcodeOf (.sreZp 0),
      opcodeOf (.rraZp 0)] =
    [0xA9, 0xA2, 0xA0, 0xA7, 0x85, 0x86, 0x84, 0x87, 0x69, 0xE9, 0xEB, 0x29, 0x09, 0x49, 0xC9, 0xE0, 0xC0, 0x24, 0x0A,
      0x4A, 0x2A, 0x6A, 0xE6, 0xC6, 0x04, 0xC7, 0xE7, 0x07, 0x27, 0x47, 0x67] := by decide

/-- JumpInstructions: a pointer whose first read is fatal, and 0x401F, whose second read alone is. -/
theorem witness_jump_fatal :
    (∃ f t, memRead ldaState 0x5000 = .fatal f t) ∧ memRead ldaState 0x401F = .ok 0x00 ldaState ∧
      samePageNext 0x401F = 0x4020 ∧ ∃ f t, memRead ldaState 0x4020 = .fatal f t :=
  ⟨⟨_, _, rfl⟩, by decide +kernel, by decide, ⟨_, _, rfl⟩⟩

/-- InstructionCost and the frame statements: a row, its instruction, and a run that completes. -/
theorem witness_run :
    ⟨0xA9, "LDA", .imm, 2, 2, false, true⟩ ∈ dispatchTable ∧ opcodeOf (.ldaImm 0x42) = 0xA9 ∧
      ∃ t, exec (.ldaImm 0x42) ldaState = .next t :=
  ⟨by decide, rfl, completes_iff _ (by decide +kernel)⟩

/-- MemoryFrame: a store, a push, and an address outside both. -/
theorem witness_frame :
    storeAddr ldaState (.staAbs 0x0200) = some 0x0200 ∧ ¬ sameRamByte 0x0200 0x0201 ∧ pushed .brk = 3 ∧
      ¬ sameRamByte (0x01#8 ++ (ldaState.cpu.sp - 0#8)) 0x0201 := by
  refine ⟨rfl, by simp [sameRamByte], rfl, ?_⟩
  unfold sameRamByte
  decide +kernel

/-- PictureAndHostFrame: a load outside the picture's registers. -/
theorem witness_picture_frame :
    loading (.ldaAbs 0x1FFF) = true ∧ operandAddr ldaState (Instr.ldaAbs 0x1FFF).operand = some 0x1FFF ∧
      ((0x1FFF#16).toNat < 0x2000 ∨ 0x4000 ≤ (0x1FFF#16).toNat) := by decide

/-- InterruptChecks: the three cases. -/
theorem witness_interrupts :
    ({ start with nmiPending := true } : State).nmiPending = true ∧ start.nmiPending = false ∧
      (start (p := 0x20)).cpu.i = false ∧ start.cpu.i = true ∧ start.host.irqLevels.headD false = false := by
  decide +kernel

/-- InterruptThenReturn: the lowest vector, and the one of rule R490. -/
theorem witness_vector : 0x8000 ≤ (0x8000#16).toNat ∧ irqVector.toNat < 0xFFFF := by decide

/-- A state at a dot, with the mask and the frame parity given. -/
def at_ (line dot : Nat) (mask : Byte) (odd : Bool) : State :=
  { quiet with ppu := { quiet.ppu with scanline := line, dot := dot, mask := mask, oddFrame := odd } }

/-- CounterAdvance: the skip, and each edge without it. -/
theorem witness_counters :
    skips (at_ 261 339 0 true) ∧ ¬ skips (at_ 261 339 0 false) ∧ ¬ skips (at_ 261 340 0 true) ∧
      (at_ 260 340 0 true).ppu.scanline < 261 := by
  refine ⟨⟨rfl, rfl, rfl, Or.inl rfl⟩, ?_, ?_, by decide⟩
  · rintro ⟨_, _, h, _⟩
    exact absurd h (by decide)
  · rintro ⟨_, h, _⟩
    exact absurd h (by decide)

/-- FrameLength: a short frame and a long one. -/
theorem witness_frame_length :
    ((at_ 0 0 0 true).ppu.oddFrame = true ∧ (at_ 0 0 0 true).params.oddFrameSkip = .always) ∧
      (at_ 0 0 0 false).ppu.oddFrame = false := by decide +kernel

/-- StatusEvents: the two events, and a dot with neither. -/
theorem witness_status_events :
    ((at_ 241 1 0 false).ppu.scanline = 241 ∧ (at_ 241 1 0 false).ppu.dot = 1) ∧
      (at_ 261 1 0 false).ppu.scanline = 261 ∧ ¬ ((at_ 241 2 0 false).ppu.dot = 1) := by decide +kernel

/-- SpriteEvaluation, SpriteFetch, BackgroundPipeline, ScrollAndAttribute: rendering lines, first and last. -/
theorem witness_rendering :
    renders (at_ 0 1 0x08 false) ∧ renders (at_ 239 65 0x10 false) ∧ renders (at_ 261 257 0x18 false) ∧
      ¬ renders (at_ 240 1 0x18 false) ∧ ¬ renders (at_ 0 1 0x07 false) ∧ quiet.ppu.secondary = [] := by
  unfold renders
  decide +kernel

/-- SpriteFetch: an entry, its unit, and a line inside the sprite. -/
theorem witness_sprite_unit :
    let e : SpriteEntry := { y := 0x20, tile := 0x41, attr := 0x00, x := 0x00, isSprite0 := false }
    let s := at_ 0x27 257 0x18 false
    let s := { s with ppu := { s.ppu with secondary := [e] } }
    s.ppu.secondary[0]? = some e ∧ (ppuTick s).ppu.units.length = 1 ∧ e.y.toNat ≤ s.ppu.scanline ∧
      s.ppu.scanline < e.y.toNat + tall s.ppu := by decide +kernel

/-- PixelPriority: no sprite pixel, and one. -/
theorem witness_pixel :
    spritePixel (at_ 0 1 0x1E false).ppu 0 = none ∧ (spritePixel (hitScene 0x20 0x1E 33).ppu 32).isSome = true := by
  decide +kernel

/-- PixelPriority: a dot whose pixel has no sprite, one whose pixel has one and hits sprite zero, the last dot of a
line, and a dot that writes no pixel. -/
theorem witness_pixel_dots :
    IsSprite (atPixel (at_ 0 1 0x1E false).ppu) 0 none ∧
      (∃ u, IsSprite (atPixel (hitScene 0x20 0x1E 33).ppu) 32 (some u) ∧ u.isSprite0 = true) ∧
      (backgroundBits (atPixel (hitScene 0x20 0x1E 33).ppu) 32).1 ≠ 0 ∧
      (at_ 239 256 0x1E false).ppu.scanline < 240 ∧ (at_ 239 256 0x1E false).ppu.dot ≤ 256 ∧
      ¬ (at_ 240 1 0x1E false).ppu.scanline < 240 := by
  have h : (atPixel (at_ 0 1 0x1E false).ppu).units = [] := by decide +kernel
  refine ⟨fun _ u hu => (by rw [h] at hu; cases hu),
    ⟨_, ⟨⟨by decide +kernel, Or.inl (by decide)⟩, by decide +kernel, 0, rfl, fun j w hj => absurd hj (by omega)⟩, rfl⟩,
    by decide +kernel, by decide +kernel, by decide +kernel, by decide +kernel⟩

/-- SpriteEvaluation, SpriteFetch: dots of a rendering line where neither does anything, and lines without rendering. -/
theorem witness_sprite_rest :
    renders (at_ 0 64 0x08 false) ∧ (at_ 0 64 0x08 false).ppu.dot ≠ 65 ∧ ¬ renders (at_ 240 65 0x08 false) ∧
      (hitScene 0x20 0x1E 33).ppu.secondary.length ≤ 8 := by
  unfold renders
  decide +kernel

/-- DisabledRendering: the mask bits clear, on the first and last picture dot. -/
theorem witness_disabled :
    (at_ 239 256 0x01 false).ppu.mask.getLsbD 3 = false ∧ (at_ 239 256 0x01 false).ppu.mask.getLsbD 4 = false := by
  decide +kernel

/-- StepKeepsInvariant, ClockRatio, StepKeepsConfiguration: a state that has the invariant, and a step from it. -/
theorem witness_invariant :
    let s := { quiet with wram := ldaState.wram }
    Inv s ∧ ∃ t, step s = .next t := by
  refine ⟨⟨?_, ⟨?_, ?_, ?_, ?_, trivial, ?_⟩, ?_, ?_, ?_⟩, completes_iff _ (by decide +kernel)⟩
  · unfold MemoriesWf
    decide +kernel
  · decide +kernel
  · decide +kernel
  · decide +kernel
  · decide +kernel
  · intro r hr
    cases hr
  · decide +kernel
  · decide +kernel
  · decide +kernel

/-- LoadAndPowerOn: a record that is accepted and one that is not. -/
theorem witness_load :
    goodRecord.wellFormed = true ∧ ({ goodRecord with mapper := 1 } : CartridgeRecord).wellFormed = false :=
  ⟨test_wellFormed_record, rfl⟩

/-- LoadAndPowerOn: what is accepted, field by field, and the first field that is not. -/
theorem witness_load_fields :
    goodRecord.mapper = 0 ∧ goodRecord.prg.length = 16384 ∧ goodRecord.chr.length = 8192 ∧
      ¬ ({ goodRecord with mapper := 1 } : CartridgeRecord).mapper = 0 ∧
      ¬ ({ goodRecord with prg := [] } : CartridgeRecord).prg.length = 16384 ∧
      ¬ ({ goodRecord with chr := [] } : CartridgeRecord).chr.length = 8192 := by
  simp [goodRecord, -List.reduceReplicate]

/-- LoadAndPowerOn: drawn memories (rule R531): the last cell for an offset counts. -/
theorem witness_load_drawn :
    drawnByte [(3, 0x11), (5, 0x22), (3, 0x33)] 3 = 0x33 ∧ drawnByte [(3, 0x11)] 4 = 0x00 ∧
      (Memory.ofCells 2048 [(3, 0x11), (5, 0x22), (3, 0x33)]).read 3 = 0x33 := by decide

end Sys2Proof.Tests
end

section
/-! PROOFS. The invariant of the machine over one driver step (rule R462): the fetch leaves the processor alone, the
instruction may leave dots owing, `ppuTicks` pays them, and an interrupt's 7 cycles are paid by its 21 dots. -/

namespace Sys2Proof.Machine

/-- A step that answers fetched an instruction, ran it and finished (rule R462). -/
theorem step_eq_next {s u : State} (h : step s = .next u) :
    ∃ i s1 t, fetchInstr s = .ok i s1 ∧ exec i s1 = .next t ∧ finishStep s1 t = .next u := by
  unfold step at h
  cases hf : s.fault with
  | some f => simp [hf] at h
  | none =>
    cases hi : fetchInstr s with
    | fatal f s1 => simp [hf, hi, Res.outcome] at h
    | ok i s1 =>
      cases he : exec i s1 with
      | next t => exact ⟨i, s1, t, rfl, he, by simpa [hf, hi, he, afterExec] using h⟩
      | fault f => simp [hf, hi, he, afterExec] at h
      | refused r => simp [hf, hi, he, afterExec] at h

/-- A controller read concerns the host alone (rule R76). -/
@[simp] theorem controllerRead_cpu (s : State) : (controllerRead s).2.cpu = s.cpu := by
  unfold controllerRead
  split <;> rfl

/-- A picture register's read leaves the processor alone (rules R357, R361, R365, R367). -/
@[simp] theorem ppuRegRead_cpu (s : State) (r : Nat) : (ppuRegRead s r).2.cpu = s.cpu := by
  unfold ppuRegRead
  split_ifs
  · rfl
  · rfl
  · unfold readData
    dsimp only
    split_ifs <;> rfl
  · rfl

/-- No bus read changes the processor (rule R71). -/
theorem memRead_cpu {s t : State} {a : Word} {b : Byte} (h : memRead s a = .ok b t) : t.cpu = s.cpu := by
  unfold memRead at h
  split_ifs at h <;> cases h <;> simp

/-- Nor does a read of two bytes (rule R83). -/
theorem memRead16_cpu {s t : State} {a w : Word} (h : memRead16 s a = .ok w t) : t.cpu = s.cpu := by
  obtain ⟨lo, s1, h1, h⟩ := Res.bind_eq_ok.1 h
  obtain ⟨hi, s2, h2, h⟩ := Res.bind_eq_ok.1 h
  cases h
  exact (memRead_cpu h2).trans (memRead_cpu h1)

/-- The fetch leaves the processor alone: PC moves when the instruction runs (rule R150). -/
theorem fetchInstr_cpu {s t : State} {i : Instr} (h : fetchInstr s = .ok i t) : t.cpu = s.cpu := by
  unfold fetchInstr at h
  obtain ⟨op, s1, h1, h⟩ := Res.bind_eq_ok.1 h
  have hop := memRead_cpu h1
  split at h
  · cases h
  · cases h
    exact hop
  · obtain ⟨b, s2, h2, h⟩ := Res.bind_eq_ok.1 h
    cases h
    exact (memRead_cpu (Res.faultIn_eq_ok.1 h2)).trans hop
  · obtain ⟨w, s2, h2, h⟩ := Res.bind_eq_ok.1 h
    cases h
    exact (memRead16_cpu h2).trans hop

/-- The invariant inside a driver step, where `n` picture dots of the cycles counted so far are still to run. -/
def InvOwing (n : Nat) (s : State) : Prop :=
  MemoriesWf s ∧ PictureWf s.ppu ∧ s.cpu.b = false ∧ s.fault = none ∧ s.ppu.ticks + n = 3 * s.cpu.cycles

/-- At a step's boundary no dot is owed. -/
theorem invOwing_zero {s : State} : InvOwing 0 s ↔ Inv s := Iff.rfl

/-- Before its dots a step leaves the picture engine's ranged fields alone. -/
theorem Moves.pictureWf {s t : State} (m : Moves s t) (h : PictureWf s.ppu) : PictureWf t.ppu := by
  unfold PictureWf at *
  rwa [m.scanline, m.dot, m.secondary, m.units, m.frame]

/-- What a part of the step before its dots can do leaves three dots owing for each cycle it counted. -/
theorem Moves.invOwing {s t : State} (m : Moves s t) (h : Inv s) :
    InvOwing (3 * (t.cpu.cycles - s.cpu.cycles)) t := by
  obtain ⟨hmem, hpicture, hb, hfault, hticks⟩ := h
  refine ⟨m.mem hmem, m.pictureWf hpicture, m.b hb, m.fault.trans hfault, ?_⟩
  have hcycles := m.cycles
  rw [m.ticks]
  omega

/-- Running the dots that are owed restores the invariant (rule R463). -/
theorem InvOwing.inv_ppuTicks {n : Nat} {s : State} (h : InvOwing n s) : Inv (ppuTicks n s) := by
  obtain ⟨hmem, hpicture, hb, hfault, hticks⟩ := h
  have f := ppuTicks_frame n s
  refine ⟨f.memoriesWf hmem, ppuTicks_pictureWf n hpicture, ?_, f.fault.trans hfault, ?_⟩
  · rw [f.cpu]; exact hb
  · rw [ppuTicks_ticks, f.cpu]; exact hticks

/-- The fetch counts no cycle, so it owes no dot. -/
theorem fetchInstr_keeps_inv {s t : State} {i : Instr} (h : fetchInstr s = .ok i t) (hs : Inv s) : Inv t := by
  have ht := (fetchInstr_moves s i t h).invOwing hs
  rwa [fetchInstr_cpu h, Nat.sub_self, Nat.mul_zero, invOwing_zero] at ht

/-- An interrupt entry through a vector in program ROM costs 7 cycles (rule R493). -/
theorem interruptEntry_cycles {s t : State} {vector : Word} (hv : 0x8000 ≤ vector.toNat)
    (hv' : 0x8000 ≤ (vector + 1).toNat) (h : interruptEntry s vector = .ok () t) :
    t.cpu.cycles = s.cpu.cycles + 7 := by
  rw [interruptEntry_eq s hv hv'] at h
  cases h
  rfl

/-- The 21 dots that follow an interrupt entry are those its 7 cycles owe (rule R492). -/
theorem interruptEntry_keeps_inv {s t : State} {vector : Word} (hv : 0x8000 ≤ vector.toNat)
    (hv' : 0x8000 ≤ (vector + 1).toNat)
    (h : ((interruptEntry s vector).bind fun _ u => .ok () (ppuTicks 21 u)) = .ok () t) (hs : Inv s) : Inv t := by
  obtain ⟨_, u, hu, ht⟩ := Res.bind_eq_ok.1 h
  obtain ⟨-, rfl⟩ := Res.ok.inj ht
  have howed := (interruptEntry_moves s vector _ u hu).invOwing hs
  rw [interruptEntry_cycles hv hv' hu, Nat.add_sub_cancel_left] at howed
  exact howed.inv_ppuTicks

/-- The interrupt check, whichever interrupt it takes (rule R492). -/
theorem interruptCheck_keeps_inv {s t : State} (h : interruptCheck s = .ok () t) (hs : Inv s) : Inv t := by
  unfold interruptCheck at h
  dsimp only at h
  split_ifs at h with hnmi hirq
  · exact interruptEntry_keeps_inv (by decide) (by decide) h hs
  · exact interruptEntry_keeps_inv (by decide) (by decide) h hs
  · cases h
    exact hs

/-- The end of a driver step pays the dots its instruction owes (rule R462). -/
theorem finishStep_keeps_inv {s t u : State} (h : finishStep s t = .next u)
    (ht : InvOwing (3 * (t.cpu.cycles - s.cpu.cycles)) t) : Inv u := by
  obtain ⟨_, hc⟩ := Res.outcome_eq_next.1 h
  exact interruptCheck_keeps_inv hc ht.inv_ppuTicks

/-- Settles O55: the fetch keeps the invariant, the instruction leaves dots owing, and the end of the step runs them. -/
theorem stepKeepsInvariant : Obligations.StepKeepsInvariant := by
  intro s u hs h
  obtain ⟨i, s1, t, hfetch, hexec, hfinish⟩ := step_eq_next h
  exact finishStep_keeps_inv hfinish ((exec_moves hexec).invOwing (fetchInstr_keeps_inv hfetch hs))

end Sys2Proof.Machine
end

section
/-! PROOFS. The packed status byte (rules R37, R38). -/

namespace Sys2Proof.Machine

/-- The packed status byte as a number (rule R37). -/
theorem packP_toNat (c : Cpu) :
    (packP c).toNat = 128 * c.n.toNat + 64 * c.v.toNat + 32 + 16 * c.b.toNat + 8 * c.d.toNat + 4 * c.i.toNat +
      2 * c.z.toNat + c.c.toNat := by
  unfold packP
  generalize c.c = fc, c.z = fz, c.i = fi, c.d = fd, c.b = fb, c.v = fv, c.n = fn
  revert fc fz fi fd fb fv fn
  decide

/-- Unpacking the packed status gives every flag back but B (rules R37, R38). -/
theorem unpackP_packP (s : State) : unpackP s (packP s.cpu) = { s with cpu := { s.cpu with b := false } } := by
  obtain ⟨hc, hz, hi, hd, -, -, hv, hn⟩ := packP_bits s.cpu
  rw [unpackP, hc, hz, hi, hd, hv, hn]

/-- Settles O60, bit by bit. -/
theorem packedStatus : Obligations.PackedStatus :=
  fun s _ => ⟨packP_toNat s.cpu, rfl, unpackP_packP s⟩

end Sys2Proof.Machine
end

section
/-! PROOFS. The configuration and the fault flag over one driver step (rules R60, R64, R462). -/

namespace Sys2Proof.Machine

/-- Two states with the same cartridge, parameters and fault flag. -/
structure SameConfig (s t : State) : Prop where
  cart : t.cart = s.cart
  params : t.params = s.params
  fault : t.fault = s.fault

theorem SameConfig.trans {s t u : State} (h : SameConfig s t) (h' : SameConfig t u) : SameConfig s u :=
  ⟨h'.cart.trans h.cart, h'.params.trans h.params, h'.fault.trans h.fault⟩

theorem Moves.sameConfig {s t : State} (m : Moves s t) : SameConfig s t := ⟨m.cart, m.params, m.fault⟩

theorem TickFrame.sameConfig {s t : State} (f : TickFrame s t) : SameConfig s t := ⟨f.cart, f.params, f.fault⟩

/-- An interrupt entry and its dots leave the configuration alone (rule R492). -/
theorem interruptEntry_ticks_sameConfig {s t : State} {vector : Word}
    (h : ((interruptEntry s vector).bind fun _ u => .ok () (ppuTicks 21 u)) = .ok () t) : SameConfig s t := by
  obtain ⟨_, u, hu, ht⟩ := Res.bind_eq_ok.1 h
  obtain ⟨-, rfl⟩ := Res.ok.inj ht
  exact (interruptEntry_moves s vector _ u hu).sameConfig.trans (ppuTicks_frame 21 u).sameConfig

/-- So does the interrupt check, whichever interrupt it takes (rule R492). -/
theorem interruptCheck_sameConfig {s t : State} (h : interruptCheck s = .ok () t) : SameConfig s t := by
  unfold interruptCheck at h
  dsimp only at h
  split_ifs at h with hnmi hirq
  · exact SameConfig.trans (t := (dropIrqLevel s).setNmiPending false) ⟨rfl, rfl, rfl⟩
      (interruptEntry_ticks_sameConfig h)
  · exact SameConfig.trans (t := dropIrqLevel s) ⟨rfl, rfl, rfl⟩ (interruptEntry_ticks_sameConfig h)
  · cases h
    exact ⟨rfl, rfl, rfl⟩

/-- And the end of a driver step, from the state its instruction left (rule R462). -/
theorem finishStep_sameConfig {s t u : State} (h : finishStep s t = .next u) : SameConfig t u := by
  obtain ⟨_, hc⟩ := Res.outcome_eq_next.1 h
  exact (ppuTicks_frame _ t).sameConfig.trans (interruptCheck_sameConfig hc)

/-- The fetch, the instruction and the end of a step leave the configuration and the fault flag alone. -/
theorem step_sameConfig {s t : State} (h : step s = .next t) : SameConfig s t := by
  obtain ⟨i, s1, s2, hfetch, hexec, hfinish⟩ := step_eq_next h
  exact ((fetchInstr_moves s i s1 hfetch).trans (exec_moves hexec)).sameConfig.trans (finishStep_sameConfig hfinish)

/-- A faulted state takes no step (rule R495). -/
theorem fault_eq_none_of_step {s t : State} (h : step s = .next t) : s.fault = none := by
  unfold step at h
  cases hf : s.fault with
  | none => rfl
  | some f => simp [hf] at h

/-- Settles O58: no part of a step writes the configuration or sets the fault flag of a state it answers. -/
theorem stepKeepsConfiguration : Obligations.StepKeepsConfiguration := by
  intro s t h
  have hs := fault_eq_none_of_step h
  obtain ⟨hcart, hparams, hfault⟩ := step_sameConfig h
  exact ⟨hcart, hparams, hs, hfault.trans hs⟩

end Sys2Proof.Machine
end

section
/-! PROOFS. The dispatch table of rule R126 and the instructions. -/

namespace Sys2Proof.Machine

/-- The row of rule R126 that an instruction's opcode byte, mnemonic, operand and `exec` arm make up. -/
def tableRowOf (i : Instr) : TableRow where
  op := opcodeOf i
  mnemonic := i.mnemonic
  mode := modeOf i.operand
  length := i.operand.length
  cycles := (rowOf i).base
  pageCross := (rowOf i).pagePenalty
  official := !i.isUnofficial

/-- The table by the high nibble of the opcode byte. -/
def tableByNibble : List (List TableRow) :=
  [tableRow0, tableRow1, tableRow2, tableRow3, tableRow4, tableRow5, tableRow6, tableRow7]
    ++ [tableRow8, tableRow9, tableRowA, tableRowB, tableRowC, tableRowD, tableRowE, tableRowF]

theorem flatten_tableByNibble : tableByNibble.flatten = dispatchTable := by
  simp [tableByNibble, dispatchTable]

/-- Every instruction's row stands among the rows of its opcode's high nibble. -/
theorem tableByNibble_contains (i : Instr) :
    (tableByNibble.getD ((opcodeOf i).toNat / 16) []).contains (tableRowOf i) = true := by
  cases i <;>
  · dsimp only [tableRowOf, opcodeOf, encode, List.headD_cons, Instr.mnemonic, Instr.operand, modeOf, Operand.length,
      rowOf, Instr.isUnofficial]
    rfl

/-- Every instruction's row is one of rule R126, with its cycle columns. -/
theorem tableRowOf_mem (i : Instr) : tableRowOf i ∈ dispatchTable := by
  have h := List.contains_iff_mem.1 (tableByNibble_contains i)
  rw [← flatten_tableByNibble, List.mem_flatten]
  rw [List.getD_eq_getElem?_getD] at h
  cases hl : tableByNibble[(opcodeOf i).toNat / 16]? with
  | none => rw [hl] at h; cases h
  | some rows => rw [hl] at h; exact ⟨rows, List.mem_of_getElem? hl, h⟩

/-- The encoding has the length of the operand's mode (rule R120). -/
theorem encode_length (i : Instr) : (encode i).length = i.operand.length := by
  cases i <;> rfl

/-- The rows stand in the order of their opcode bytes, so these are distinct. -/
theorem dispatchTable_op_nodup : (dispatchTable.map TableRow.op).Nodup := by
  have h : (dispatchTable.map TableRow.op).IsChain (· < ·) := by decide +kernel
  exact (List.isChain_iff_pairwise.1 h).imp BitVec.ne_of_lt

/-- Each row's opcode byte is that of the instruction the decoder reads from it. -/
theorem opcodeOf_decodeTableWord :
    ∀ r ∈ dispatchTable, (decodeTableWord 8 r.op.toNat).map opcodeOf = some r.op := by
  decide +kernel

/-- Settles O3: each instruction makes up a row of the table, and the decoder gives each row an instruction. -/
theorem dispatchTableRows : Obligations.DispatchTableRows := by
  refine ⟨by decide +kernel, by decide +kernel, dispatchTable_op_nodup, fun i => ?_, fun r hr => ?_⟩
  · exact ⟨tableRowOf i, tableRowOf_mem i, rfl, rfl, rfl, (encode_length i).symm, rfl, rfl⟩
  · obtain ⟨i, -, hi⟩ := Option.map_eq_some_iff.1 (opcodeOf_decodeTableWord r hr)
    exact ⟨i, hi⟩

end Sys2Proof.Machine
end

section
/-! PROOFS. Sprite fetch (rules R423-R426): one equation for the output units a dot leaves, and the pattern address of a
sprite on the line as a natural number. -/

namespace Sys2Proof.Machine

/-- Two picture engines with the same secondary OAM and output units (rules R54, R55). -/
structure SameSprites (p q : Ppu) : Prop where
  secondary : q.secondary = p.secondary
  units : q.units = p.units

theorem SameSprites.trans {p q r : Ppu} (h : SameSprites p q) (h' : SameSprites q r) : SameSprites p r :=
  ⟨h'.secondary.trans h.secondary, h'.units.trans h.units⟩

theorem shiftStage_sprites (s : State) : SameSprites s.ppu (shiftStage s).ppu := by
  unfold shiftStage
  split_ifs <;> exact ⟨rfl, rfl⟩

theorem pixelStage_sprites (s : State) : SameSprites s.ppu (pixelStage s).ppu := by
  unfold pixelStage
  split_ifs <;> exact ⟨rfl, rfl⟩

theorem reloadStage_sprites (s : State) : SameSprites s.ppu (reloadStage s).ppu := by
  unfold reloadStage
  split_ifs <;> exact ⟨rfl, rfl⟩

theorem fetchStage_sprites (s : State) : SameSprites s.ppu (fetchStage s).ppu := by
  unfold fetchStage backgroundFetch
  split_ifs
  · dsimp only
    split <;> exact ⟨rfl, rfl⟩
  · exact ⟨rfl, rfl⟩

theorem scrollStage_sprites (s : State) : SameSprites s.ppu (scrollStage s).ppu := by
  unfold scrollStage
  split_ifs <;> exact ⟨rfl, rfl⟩

theorem statusStage_sprites (s : State) : SameSprites s.ppu (statusStage s).ppu := by
  unfold statusStage vblankStart
  split_ifs <;> exact ⟨rfl, rfl⟩

/-- The dot's work up to the sprite work's turn (rule R403). -/
def beforeSprites (s : State) : State := scrollStage (fetchStage (reloadStage (pixelStage (shiftStage s))))

theorem dotWork_eq (s : State) : dotWork s = statusStage (spriteStage (beforeSprites s)) := rfl

theorem beforeSprites_frame (s : State) : DotFrame s (beforeSprites s) :=
  ((((shiftStage_frame s).trans (pixelStage_frame _)).trans (reloadStage_frame _)).trans (fetchStage_frame _)).trans
    (scrollStage_frame _)

theorem beforeSprites_sprites (s : State) : SameSprites s.ppu (beforeSprites s).ppu :=
  ((((shiftStage_sprites s).trans (pixelStage_sprites _)).trans (reloadStage_sprites _)).trans
    (fetchStage_sprites _)).trans (scrollStage_sprites _)

/-- What a dot leaves alone is all that a picture-side read depends on (rule R91). -/
theorem DotFrame.ppuRead {s t : State} (f : DotFrame s t) (a : Nat) : ppuRead t a = ppuRead s a := by
  simp only [Machine.ppuRead, f.palette, f.nametable, f.cart]

theorem DotFrame.spriteAddr {s t : State} (f : DotFrame s t) (e : SpriteEntry) :
    spriteAddr t.ppu e = spriteAddr s.ppu e := by
  unfold Machine.spriteAddr spriteRow spriteHeight
  rw [f.scanline, f.ctrl]

/-- So it is for a sprite's fetch (rule R424). -/
theorem DotFrame.fetchSprite {s t : State} (f : DotFrame s t) (e : SpriteEntry) :
    fetchSprite t e = fetchSprite s e := by
  unfold Machine.fetchSprite ppuReadInt
  rw [f.spriteAddr, funext f.ppuRead]

theorem DotFrame.rendering {s t : State} (f : DotFrame s t) : rendering t.ppu = rendering s.ppu := by
  simp only [Machine.rendering, visibleLine, preRenderLine, renderingEnabled, f.scanline, f.mask]

/-- The sprite work writes the output units at dot 257 of a render line only (rules R424, R425). -/
theorem spriteStage_units (s : State) :
    (spriteStage s).ppu.units =
      if rendering s.ppu = true ∧ s.ppu.dot = 257 then
        if s.ppu.scanline = 261 then [] else s.ppu.secondary.map (fetchSprite s)
      else s.ppu.units := by
  unfold spriteStage spriteWork evaluateSprites preRenderLine
  by_cases hr : rendering s.ppu = true
  · by_cases hp : s.ppu.scanline = 261
    · by_cases hd : s.ppu.dot = 257 <;> simp [hr, hp, hd]
    · by_cases hd : s.ppu.dot = 257
      · simp [hr, hp, hd]
      · simp only [hr, hp, hd, if_true, beq_iff_eq, if_false, and_false, State.setPpu_ppu]
        split_ifs <;> rfl
  · simp [hr]

/-- At dot 257 the sprite work leaves secondary OAM alone (rule R424). -/
theorem spriteStage_secondary {s : State} (hd : s.ppu.dot = 257) : (spriteStage s).ppu.secondary = s.ppu.secondary := by
  by_cases hr : rendering s.ppu = true
  · by_cases hp : preRenderLine s.ppu = true <;> simp [spriteStage, spriteWork, hr, hp, hd]
  · simp [spriteStage, hr]

/-- The output units after one tick (rules R424-R426). -/
theorem ppuTick_units (s : State) :
    (ppuTick s).ppu.units =
      if rendering s.ppu = true ∧ s.ppu.dot = 257 then
        if s.ppu.scanline = 261 then [] else s.ppu.secondary.map (fetchSprite s)
      else s.ppu.units := by
  have f := beforeSprites_frame s
  have hl := beforeSprites_sprites s
  rw [ppuTick, advance_units, dotWork_eq, (statusStage_sprites _).units, spriteStage_units, f.rendering, f.dot,
    f.scanline, hl.secondary, hl.units, funext f.fetchSprite]

/-- Secondary OAM after the tick at dot 257. -/
theorem ppuTick_secondary {s : State} (hd : s.ppu.dot = 257) : (ppuTick s).ppu.secondary = s.ppu.secondary := by
  rw [ppuTick, advance_secondary, dotWork_eq, (statusStage_sprites _).secondary,
    spriteStage_secondary ((beforeSprites_frame s).dot.trans hd), (beforeSprites_sprites s).secondary]

/-- The render lines of rule R402 with rendering enabled, as the obligations write them. -/
theorem renders_iff (s : State) : renders s ↔ rendering s.ppu = true := by
  simp [renders, rendering, visibleLine, preRenderLine, renderingEnabled]

/-- The picture-side router reduces its address (rule R91). -/
theorem ppuRead_mod (s : State) (a : Nat) : ppuRead s (a % 0x4000) = ppuRead s a := by
  unfold ppuRead
  rw [Nat.mod_mod]

theorem ppuReadInt_natCast (s : State) (a : Nat) : ppuReadInt s (a : Int) = ppuRead s a := by
  have h : ((a : Int) % 0x4000).toNat = a % 0x4000 := by omega
  rw [ppuReadInt, h, ppuRead_mod]

/-- The row of a sprite on the current line (rules R423, R424). -/
theorem spriteRow_eq {p : Ppu} {e : SpriteEntry} (h : e.y.toNat ≤ p.scanline)
    (h' : p.scanline < e.y.toNat + tall p) :
    spriteRow p e =
      ((if e.attr.getLsbD 7 then tall p - 1 - (p.scanline - e.y.toNat) else p.scanline - e.y.toNat : Nat) : Int) := by
  have ht : spriteHeight p = tall p := rfl
  unfold spriteRow
  rw [ht]
  dsimp only
  split_ifs <;> omega

theorem tile_and_one (t : Byte) : (t &&& 0x01).toNat = t.toNat % 2 := by
  revert t
  decide

theorem tile_and_FE (t : Byte) : (t &&& 0xFE).toNat = t.toNat / 2 * 2 := by
  revert t
  decide

/-- The pattern address of a sprite on the current line (rule R424). -/
theorem spriteAddr_eq {p : Ppu} {e : SpriteEntry} (h : e.y.toNat ≤ p.scanline)
    (h' : p.scanline < e.y.toNat + tall p) : spriteAddr p e = (spritePatternAddr p e : Int) := by
  unfold spriteAddr spritePatternAddr
  rw [spriteRow_eq h h', tile_and_one, tile_and_FE]
  have ht : tall p = if p.ctrl.getLsbD 5 then 16 else 8 := rfl
  generalize hrow : (if e.attr.getLsbD 7 then tall p - 1 - (p.scanline - e.y.toNat) else p.scanline - e.y.toNat) = row
  have hlt : row < tall p := by split_ifs at hrow <;> omega
  dsimp only
  by_cases h5 : p.ctrl.getLsbD 5 = true
  · rw [if_pos h5] at ht
    simp only [h5, if_true]
    split_ifs <;> omega
  · simp only [h5]
    push_cast
    rfl

/-- `Reverse8` is the horizontal flip (rule R424). -/
theorem flipped_reverse8 (flip : Bool) (b : Byte) : flipped flip b (if flip then reverse8 b else b) := by
  have h : ∀ b : Byte, ∀ k < 8, (reverse8 b).getLsbD k = b.getLsbD (7 - k) := by decide +kernel
  intro k hk
  cases flip with
  | false => rfl
  | true => exact h b k hk

/-- The two pattern bytes fetched for a sprite on the current line (rule R424). -/
theorem fetchSprite_patterns {s : State} {e : SpriteEntry} (h : e.y.toNat ≤ s.ppu.scanline)
    (h' : s.ppu.scanline < e.y.toNat + tall s.ppu) :
    flipped (e.attr.getLsbD 6) (ppuRead s (spritePatternAddr s.ppu e)) (fetchSprite s e).patternLo ∧
      flipped (e.attr.getLsbD 6) (ppuRead s (spritePatternAddr s.ppu e + 8)) (fetchSprite s e).patternHi := by
  have hlo : ppuReadInt s (spriteAddr s.ppu e) = ppuRead s (spritePatternAddr s.ppu e) := by
    rw [spriteAddr_eq h h', ppuReadInt_natCast]
  have hhi : ppuReadInt s (spriteAddr s.ppu e + 8) = ppuRead s (spritePatternAddr s.ppu e + 8) := by
    rw [spriteAddr_eq h h', ← ppuReadInt_natCast]
    rfl
  rw [← hlo, ← hhi]
  exact ⟨flipped_reverse8 _ _, flipped_reverse8 _ _⟩

/-- Settles O50: the output units after a tick are those of one equation, and a unit is its entry's fetch. -/
theorem spriteFetch : Obligations.SpriteFetch := by
  refine ⟨fun s hline hr hd => ?_, fun s hline hr hd => ?_, fun s hnot => ?_⟩
  · have hunits : (ppuTick s).ppu.units = s.ppu.secondary.map (fetchSprite s) := by
      rw [ppuTick_units, if_pos ⟨(renders_iff s).1 hr, hd⟩, if_neg (by omega)]
    refine ⟨by rw [hunits, List.length_map], ppuTick_secondary hd, fun k e u he hu => ?_⟩
    rw [hunits, List.getElem?_map, he] at hu
    cases hu
    exact ⟨rfl, rfl, rfl, rfl, fetchSprite_patterns⟩
  · rw [ppuTick_units, if_pos ⟨(renders_iff s).1 hr, hd⟩, if_pos hline]
  · rw [renders_iff] at hnot
    rw [ppuTick_units, if_neg hnot]

end Sys2Proof.Machine
end

section
/-! PROOFS. The effective address of a memory operand (rules R154-R162). -/

namespace Sys2Proof.Machine

theorem hiByte_toNat (w : Word) : (hiByte w).toNat = w.toNat / 256 := by
  have h := w.isLt
  simp only [hiByte, BitVec.extractLsb'_toNat, Nat.shiftRight_eq_div_pow]
  omega

theorem loByte_toNat (w : Word) : (loByte w).toNat = w.toNat % 256 := by
  simp [loByte, BitVec.extractLsb'_toNat]

theorem wordOf_toNat (hi lo : Byte) : (wordOf hi lo).toNat = hi.toNat * 256 + lo.toNat := by
  have h := hiByte_toNat (wordOf hi lo)
  have h' := loByte_toNat (wordOf hi lo)
  rw [hiByte_wordOf] at h
  rw [loByte_wordOf] at h'
  omega

/-- The two forms of "different pages" (rules R20, R158). -/
theorem pageDiffers_eq (a b : Word) : pageDiffers a b = otherPage a b := by
  rw [pageDiffers, otherPage, bne, Bool.eq_iff_iff]
  simp [← hiByte_toNat, BitVec.toNat_inj]

theorem zeroPage_eq (z : Byte) : zeroPage z = z.setWidth 16 := by
  apply BitVec.eq_of_toNat_eq
  have h := z.isLt
  rw [zeroPage_toNat, BitVec.toNat_setWidth]
  omega

/-- Where an operand has an address, the mode function finds it without side effect (rules R154-R162). -/
theorem effective_eq {s : State} {o : Operand} {ea : Word} (h : operandAddr s o = some ea) :
    effective s o = .ok { target := .mem ea, crossed := crosses s o } s := by
  cases o with
  | imp | acc | imm _ | ind _ | rel _ => cases h
  | zp z | zpx z | zpy z =>
    cases h
    rw [effective, zeroPage_eq]
    rfl
  | abs a =>
    cases h
    rfl
  | absx a | absy a =>
    cases h
    rw [effective, pageDiffers_eq, indexOf, ← zeroPage, zeroPage_eq]
    rfl
  | indx z =>
    cases h
    rw [effective, readPointer_zeroPage]
    rfl
  | indy z =>
    cases h
    rw [effective, readPointer_zeroPage, Res.bind_ok, pageDiffers_eq, indexOf, ← zeroPage, zeroPage_eq]
    rfl

/-- The byte after `ptr` in its page (rule R160). -/
theorem nextInPage_toNat (ptr : Word) :
    (nextInPage ptr).toNat = ptr.toNat / 256 * 256 + (ptr.toNat % 256 + 1) % 256 := by
  rw [nextInPage, wordOf_toNat, hiByte_toNat, BitVec.toNat_add, loByte_toNat]
  rfl

end Sys2Proof.Machine
end

section
/-! PROOFS. What the shared operations over the bus write of the processor, and which addresses reach no device (rules
R71-R81). -/

namespace Sys2Proof.Machine

/-- Two states with the same picture engine, pending NMI and host's side. -/
structure SameDevices (s t : State) : Prop where
  ppu : t.ppu = s.ppu
  nmiPending : t.nmiPending = s.nmiPending
  host : t.host = s.host

theorem SameDevices.trans {s t u : State} (h : SameDevices s t) (h' : SameDevices t u) : SameDevices s u :=
  ⟨h'.ppu.trans h.ppu, h'.nmiPending.trans h.nmiPending, h'.host.trans h.host⟩

/-- An address whose read and whose write touch no device register: not in 0x2000-0x3FFF, nor OAM DMA, nor the
controller port (rules R74-R77). -/
def OffDevices (ea : Word) : Prop := (ea.toNat < 0x2000 ∨ 0x4000 ≤ ea.toNat) ∧ ea ≠ 0x4014 ∧ ea ≠ 0x4016

/-- RAM and ROM are off the devices. -/
theorem offDevices_of_plain {ea : Word} (h : ea.toNat < 0x2000 ∨ 0x6000 ≤ ea.toNat) : OffDevices ea := by
  refine ⟨by omega, ?_, ?_⟩ <;>
  · rintro rfl
    revert h
    decide

/-- A read off the devices has no side effect (rules R73, R75, R79, R80). -/
theorem memRead_offDevices {s t : State} {a : Word} {b : Byte} (ha : OffDevices a) (h : memRead s a = .ok b t) :
    t = s := by
  obtain ⟨hrange, -, hport⟩ := ha
  unfold memRead at h
  split_ifs at h with h1 h2 h3 h4 h5 h6
  · cases h; rfl
  · cases h; rfl
  · exact absurd (BitVec.eq_of_toNat_eq h5) hport
  · cases h; rfl
  · omega
  · cases h; rfl

/-- A write off the devices reaches RAM only, or nothing (rules R73, R75, R79). -/
theorem memWrite_offDevices {s t : State} {a : Word} {v : Byte} {x : Unit} (ha : OffDevices a)
    (h : memWrite s a v = .ok x t) : SameDevices s t := by
  obtain ⟨hrange, hdma, hport⟩ := ha
  unfold memWrite at h
  split_ifs at h with h1 h2 h3 h4 h5 h6 h7
  · cases h; exact ⟨rfl, rfl, rfl⟩
  · exact absurd (BitVec.eq_of_toNat_eq h5) hdma
  · exact absurd (BitVec.eq_of_toNat_eq h6) hport
  · cases h; exact ⟨rfl, rfl, rfl⟩
  · omega
  · cases h; exact ⟨rfl, rfl, rfl⟩

/-- No picture register's write changes the processor (rules R354-R364). -/
theorem ppuRegWrite_cpu {s t : State} {r : Nat} {v : Byte} {x : Unit} (h : ppuRegWrite s r v = .ok x t) :
    t.cpu = s.cpu := by
  unfold ppuRegWrite at h
  split_ifs at h
  · cases h; rfl
  · cases h; rfl
  · cases h; rfl
  · cases h; rfl
  · cases h; rfl
  · cases h; unfold writeScroll; split_ifs <;> rfl
  · cases h; unfold writeAddr; split_ifs <;> rfl
  · obtain ⟨_, u, hu, h⟩ := Res.bind_eq_ok.1 h
    cases h
    unfold ppuWrite at hu
    dsimp only at hu
    split_ifs at hu <;> (cases hu; rfl)

/-- Nor does the copy of OAM DMA (rule R77). -/
theorem oamDmaLoop_cpu {n : Nat} {src : Word} {dst : Byte} {s t : State} {x : Unit}
    (h : oamDmaLoop n src dst s = .ok x t) : t.cpu = s.cpu := by
  induction n generalizing src dst s with
  | zero => cases h; rfl
  | succ n ih =>
    obtain ⟨b, u, hu, h⟩ := Res.bind_eq_ok.1 h
    exact (ih h).trans (show u.cpu = s.cpu from memRead_cpu hu)

/-- A write changes nothing of the processor but `cycles`, by the stall of OAM DMA (rules R72, R77). -/
theorem memWrite_cpu {s t : State} {a : Word} {v : Byte} {x : Unit} (h : memWrite s a v = .ok x t) :
    t.cpu = { s.cpu with cycles := t.cpu.cycles } := by
  unfold memWrite at h
  split_ifs at h
  · cases h; rfl
  · obtain ⟨_, u, hu, h⟩ := Res.bind_eq_ok.1 h
    cases h
    rw [← oamDmaLoop_cpu hu]
    rfl
  · cases h; rfl
  · cases h; rfl
  · rw [ppuRegWrite_cpu h]
  · cases h; rfl

end Sys2Proof.Machine
end

section
/-! PROOFS. The state each stack and exception operation leaves: all of them answer always (rule R494). -/

namespace Sys2Proof.Machine

theorem opPha_eq (t : Target) (s : State) : opPha t s =
    .ok 0 ((s.setWram (s.wram.write (0x100 + s.cpu.sp.toNat) s.cpu.a)).setSp (s.cpu.sp - 1)) := by
  rw [opPha, push_eq, Res.bind_ok]

theorem opPhp_eq (t : Target) (s : State) : opPhp t s =
    .ok 0 ((s.setWram (s.wram.write (0x100 + s.cpu.sp.toNat) (pushedStatus s.cpu))).setSp (s.cpu.sp - 1)) := by
  rw [opPhp, push_eq, Res.bind_ok]

theorem opPla_eq (t : Target) (s : State) : opPla t s =
    .ok 0 (setZN ((s.setSp (s.cpu.sp + 1)).setA (s.wram.read (0x100 + (s.cpu.sp + 1).toNat)))
      (s.wram.read (0x100 + (s.cpu.sp + 1).toNat))) := by
  rw [opPla, pull_eq, Res.bind_ok]

theorem opPlp_eq (t : Target) (s : State) : opPlp t s =
    .ok 0 (unpackP (s.setSp (s.cpu.sp + 1)) (s.wram.read (0x100 + (s.cpu.sp + 1).toNat))) := by
  rw [opPlp, pull_eq, Res.bind_ok]

theorem opJsr_eq (t : Target) (s : State) : opJsr t s =
    .ok 0 (((s.setWram ((s.wram.write (0x100 + s.cpu.sp.toNat) (hiByte (s.cpu.pc - 1))).write
      (0x100 + (s.cpu.sp - 1).toNat) (loByte (s.cpu.pc - 1)))).setSp (s.cpu.sp - 1 - 1)).setPc t.addr) := by
  rw [opJsr, push16_eq, Res.bind_ok]

theorem opRts_eq (t : Target) (s : State) : opRts t s =
    .ok 0 ((s.setSp (s.cpu.sp + 1 + 1)).setPc (wordOf (s.wram.read (0x100 + (s.cpu.sp + 1 + 1).toNat))
      (s.wram.read (0x100 + (s.cpu.sp + 1).toNat)) + 1)) := by
  rw [opRts, pull16_eq, Res.bind_ok]

theorem opRti_eq (t : Target) (s : State) : opRti t s =
    .ok 0 (((unpackP s (s.wram.read (0x100 + (s.cpu.sp + 1).toNat))).setSp (s.cpu.sp + 1 + 1 + 1)).setPc
      (wordOf (s.wram.read (0x100 + (s.cpu.sp + 1 + 1 + 1).toNat))
        (s.wram.read (0x100 + (s.cpu.sp + 1 + 1).toNat)))) := by
  rw [opRti, returnFromException_eq, Res.bind_ok]

theorem opBrk_eq (t : Target) (s : State) : opBrk t s =
    .ok 0 ((((s.setWram (exceptionFrame s (s.cpu.pc + 1) (pushedStatus s.cpu))).setSp
      (s.cpu.sp - 1 - 1 - 1)).setI true).setPc (vectorWord s.cart irqVector)) := by
  rw [opBrk, takeException_eq _ _ _ (by decide) (by decide), Res.bind_ok]

end Sys2Proof.Machine
end

section
/-! PROOFS. The footprint of each mnemonic: the registers and flags it may write (rules R31-R34, R41) and whether it
reads or stores its operand; and that every operation stays within its mnemonic's footprint. -/

namespace Sys2Proof.Machine

/-- What an operation may write of the processor, and whether it reads and stores its operand. Z and N go together. -/
structure Footprint where
  a : Bool
  x : Bool
  y : Bool
  sp : Bool
  pc : Bool
  c : Bool
  zn : Bool
  v : Bool
  i : Bool
  d : Bool
  b : Bool
  loads : Bool
  stores : Bool

/-- The footprint the rules give a mnemonic. A shift of the accumulator writes A besides (`Footprint.onTarget`). -/
def footprint (m : String) : Footprint where
  a := ["LDA", "PLA", "TXA", "TYA", "ADC", "SBC", "AND", "ORA", "EOR", "*LAX", "*SLO", "*RLA", "*SRE", "*RRA", "*ISB",
    "*SBC"].contains m
  x := ["LDX", "TAX", "TSX", "INX", "DEX", "*LAX"].contains m
  y := ["LDY", "TAY", "INY", "DEY"].contains m
  sp := ["TXS", "PHA", "PHP", "PLA", "PLP", "JSR", "RTS", "RTI", "BRK"].contains m
  pc := ["BCC", "BCS", "BEQ", "BNE", "BMI", "BPL", "BVC", "BVS", "JMP", "JSR", "RTS", "RTI", "BRK"].contains m
  c := ["ADC", "SBC", "*SBC", "CMP", "CPX", "CPY", "ASL", "LSR", "ROL", "ROR", "CLC", "SEC", "PLP", "RTI", "*SLO",
    "*RLA", "*SRE", "*RRA", "*DCP", "*ISB"].contains m
  zn := ["LDA", "LDX", "LDY", "TAX", "TAY", "TXA", "TYA", "TSX", "ADC", "SBC", "*SBC", "AND", "ORA", "EOR", "CMP",
    "CPX", "CPY", "BIT", "ASL", "LSR", "ROL", "ROR", "INC", "DEC", "INX", "INY", "DEX", "DEY", "PLA", "PLP", "RTI",
    "*LAX", "*SLO", "*RLA", "*SRE", "*RRA", "*DCP", "*ISB"].contains m
  v := ["ADC", "SBC", "*SBC", "BIT", "CLV", "PLP", "RTI", "*RRA", "*ISB"].contains m
  i := ["CLI", "SEI", "PLP", "RTI", "BRK"].contains m
  d := ["CLD", "SED", "PLP", "RTI"].contains m
  b := ["PLP", "RTI"].contains m
  loads := ["LDA", "LDX", "LDY", "ADC", "SBC", "AND", "ORA", "EOR", "CMP", "CPX", "CPY", "BIT", "*LAX", "*SBC", "ASL",
    "LSR", "ROL", "ROR", "INC", "DEC", "*DCP", "*ISB", "*SLO", "*RLA", "*SRE", "*RRA"].contains m
  stores := ["STA", "STX", "STY", "*SAX", "ASL", "LSR", "ROL", "ROR", "INC", "DEC", "*DCP", "*ISB", "*SLO", "*RLA",
    "*SRE", "*RRA"].contains m

/-- The footprint of an operation that stores to the accumulator, where that is its operand (rule R166). -/
def Footprint.onTarget (f : Footprint) (t : Target) : Footprint := { f with a := f.a || decide (t = .acc) }

/-- `old` with what the footprint names taken from `new`; B is written only as 0 (rule R39). -/
def Footprint.merge (f : Footprint) (old new : Cpu) : Cpu where
  a := bif f.a then new.a else old.a
  x := bif f.x then new.x else old.x
  y := bif f.y then new.y else old.y
  sp := bif f.sp then new.sp else old.sp
  pc := bif f.pc then new.pc else old.pc
  c := bif f.c then new.c else old.c
  z := bif f.zn then new.z else old.z
  i := bif f.i then new.i else old.i
  d := bif f.d then new.d else old.d
  b := bif f.b then false else old.b
  v := bif f.v then new.v else old.v
  n := bif f.zn then new.n else old.n
  cycles := new.cycles

/-- `new` is `old` but for what the footprint names. -/
def Footprint.Keeps (f : Footprint) (old new : Cpu) : Prop := new = f.merge old new

section
variable {f : Footprint} {p q r : Cpu}

theorem Footprint.merge_merge (f : Footprint) (p q r : Cpu) :
    f.merge (f.merge p q) r = f.merge p r := by
  have h {α : Type} (k : Bool) (a b c : α) : (bif k then a else bif k then b else c) = bif k then a else c := by
    cases k <;> rfl
  simp only [Footprint.merge, h]

theorem Footprint.Keeps.trans (h : f.Keeps p q) (h' : f.Keeps q r) : f.Keeps p r := by
  unfold Footprint.Keeps at *
  rw [h, Footprint.merge_merge] at h'
  exact h'

/-- Counting cycles is within every footprint that does not write B. -/
theorem Footprint.Keeps.of_cycles (hb : f.b = false) (h : q = { p with cycles := q.cycles }) : f.Keeps p q := by
  unfold Footprint.Keeps
  rw [h]
  simp [Footprint.merge, hb]

theorem Footprint.Keeps.refl (hb : f.b = false) : f.Keeps p p := .of_cycles hb rfl

theorem Footprint.Keeps.carry {k : Bool} (hb : f.b = false) (hc : f.c = true) : f.Keeps p { p with c := k } := by
  simp [Footprint.Keeps, Footprint.merge, hb, hc]

theorem Footprint.Keeps.jump {k : Word} (hb : f.b = false) (hpc : f.pc = true) : f.Keeps p { p with pc := k } := by
  simp [Footprint.Keeps, Footprint.merge, hb, hpc]

theorem Footprint.Keeps.acc {k : Byte} (hb : f.b = false) (ha : f.a = true) : f.Keeps p { p with a := k } := by
  simp [Footprint.Keeps, Footprint.merge, hb, ha]

/-- Counting cycles afterwards keeps to every footprint. -/
theorem Footprint.Keeps.addCycles (h : f.Keeps p q) (k : Nat) :
    f.Keeps p { q with cycles := q.cycles + k } := by
  have h' := congrArg (fun r : Cpu => { r with cycles := q.cycles + k }) h
  exact h'

/-- What keeps to a footprint keeps to the one widened for its target. -/
theorem Footprint.Keeps.onTarget (h : f.Keeps p q) (t : Target) : (f.onTarget t).Keeps p q := by
  by_cases ht : t = .acc
  · have e : (f.onTarget t).merge p q = { f.merge p q with a := q.a } := by
      simp [Footprint.onTarget, Footprint.merge, ht]
    rw [Footprint.Keeps, e, ← show q = f.merge p q from h]
  · have e : f.onTarget t = f := by simp [Footprint.onTarget, ht]
    rwa [e]

theorem Footprint.Keeps.a (h : f.Keeps p q) (hf : f.a = false) : q.a = p.a := by
  rw [h, Footprint.merge, hf]; rfl

theorem Footprint.Keeps.x (h : f.Keeps p q) (hf : f.x = false) : q.x = p.x := by
  rw [h, Footprint.merge, hf]; rfl

theorem Footprint.Keeps.y (h : f.Keeps p q) (hf : f.y = false) : q.y = p.y := by
  rw [h, Footprint.merge, hf]; rfl

theorem Footprint.Keeps.sp (h : f.Keeps p q) (hf : f.sp = false) : q.sp = p.sp := by
  rw [h, Footprint.merge, hf]; rfl

theorem Footprint.Keeps.pc (h : f.Keeps p q) (hf : f.pc = false) : q.pc = p.pc := by
  rw [h, Footprint.merge, hf]; rfl

theorem Footprint.Keeps.c (h : f.Keeps p q) (hf : f.c = false) : q.c = p.c := by
  rw [h, Footprint.merge, hf]; rfl

theorem Footprint.Keeps.zn (h : f.Keeps p q) (hf : f.zn = false) : q.z = p.z ∧ q.n = p.n := by
  rw [h, Footprint.merge, hf]; exact ⟨rfl, rfl⟩

theorem Footprint.Keeps.v (h : f.Keeps p q) (hf : f.v = false) : q.v = p.v := by
  rw [h, Footprint.merge, hf]; rfl

theorem Footprint.Keeps.i (h : f.Keeps p q) (hf : f.i = false) : q.i = p.i := by
  rw [h, Footprint.merge, hf]; rfl

theorem Footprint.Keeps.d (h : f.Keeps p q) (hf : f.d = false) : q.d = p.d := by
  rw [h, Footprint.merge, hf]; rfl

theorem Footprint.Keeps.b (h : f.Keeps p q) (hf : f.b = false) : q.b = p.b := by
  rw [h, Footprint.merge, hf]; rfl

theorem Footprint.Keeps.b_clear (h : f.Keeps p q) (hf : f.b = true) : q.b = false := by
  rw [h, Footprint.merge, hf]; rfl

end

/-- The targets an operation of this footprint can have without touching a device register. -/
def Footprint.Avoids (f : Footprint) : Target → Prop
  | .mem ea => (f.loads || f.stores) = true → OffDevices ea
  | .imm _ _ => f.stores = false
  | .acc | .none => True

/-- One answer of an operation on `t`: it keeps to the footprint, and where its target avoids the devices it touches
none. -/
structure Footprint.Step (f : Footprint) (t : Target) (s s' : State) : Prop where
  cpu : (f.onTarget t).Keeps s.cpu s'.cpu
  devices : f.Avoids t → SameDevices s s'

theorem Footprint.Step.trans {f : Footprint} {t : Target} {s s' s'' : State} (h : f.Step t s s')
    (h' : f.Step t s' s'') : f.Step t s s'' :=
  ⟨h.cpu.trans h'.cpu, fun ha => (h.devices ha).trans (h'.devices ha)⟩

/-- An update of the processor or of the CPU-side memories, within the footprint. -/
theorem Footprint.Step.of_keeps {f : Footprint} {t : Target} {s s' : State} (h : f.Keeps s.cpu s'.cpu)
    (h' : SameDevices s s') : f.Step t s s' :=
  ⟨h.onTarget t, fun _ => h'⟩

/-- Every answer of the operation is such a step. -/
def Operation.Within (op : Operation) (f : Footprint) : Prop :=
  ∀ (t : Target) (s : State) (n : Nat) (s' : State), op t s = .ok n s' → f.Step t s s'

section
variable {f : Footprint}

theorem readTarget_step {t : Target} {s s' : State} {v : Byte} (hb : f.b = false) (hl : f.loads = true)
    (h : readTarget s t = .ok v s') : f.Step t s s' := by
  cases t with
  | mem ea =>
    refine ⟨.of_cycles hb (by rw [memRead_cpu h]), fun ha => ?_⟩
    rw [memRead_offDevices (ha (by rw [hl]; rfl)) h]
    exact ⟨rfl, rfl, rfl⟩
  | acc | imm _ _ | none =>
    cases h
    exact .of_keeps (.refl hb) ⟨rfl, rfl, rfl⟩

theorem writeTarget_step {t : Target} {s s' : State} {v : Byte} {x : Unit} (hb : f.b = false) (hs : f.stores = true)
    (h : writeTarget s t v = .ok x s') : f.Step t s s' := by
  cases t with
  | mem ea =>
    exact ⟨.of_cycles hb (memWrite_cpu h), fun ha => memWrite_offDevices (ha (by rw [hs, Bool.or_true])) h⟩
  | imm ea w => exact ⟨.of_cycles hb (memWrite_cpu h), fun ha => absurd (hs.symm.trans ha) (by decide)⟩
  | acc =>
    cases h
    exact ⟨.acc hb (Bool.or_true _), fun _ => ⟨rfl, rfl, rfl⟩⟩
  | none =>
    cases h
    exact .of_keeps (.refl hb) ⟨rfl, rfl, rfl⟩

/-- Read the operand, then update the processor. -/
theorem Operation.Within.read {k : Byte → State → State} (hb : f.b = false) (hl : f.loads = true)
    (hk : ∀ v s, f.Keeps s.cpu (k v s).cpu ∧ SameDevices s (k v s)) :
    Operation.Within (fun t s => (readTarget s t).bind fun v s1 => .ok 0 (k v s1)) f := by
  intro t s n s' h
  obtain ⟨v, u, hu, h⟩ := Res.bind_eq_ok.1 h
  cases h
  exact (readTarget_step hb hl hu).trans (.of_keeps (hk v u).1 (hk v u).2)

/-- Store a value computed from the state. -/
theorem Operation.Within.store {value : State → Byte} (hb : f.b = false) (hs : f.stores = true) :
    Operation.Within (fun t s => storeOp (value s) t s) f := by
  intro t s n s' h
  obtain ⟨_, u, hu, h⟩ := Res.bind_eq_ok.1 h
  cases h
  exact writeTarget_step hb hs hu

/-- Shift the operand, then update the processor. -/
theorem Operation.Within.shift {g : ShiftFn} {after : State → Byte → State} (hb : f.b = false) (hl : f.loads = true)
    (hs : f.stores = true) (hc : f.c = true)
    (hk : ∀ s r, f.Keeps s.cpu (after s r).cpu ∧ SameDevices s (after s r)) :
    Operation.Within (shiftOp g after) f := by
  intro t s n s' h
  obtain ⟨m, u, hu, h⟩ := Res.bind_eq_ok.1 h
  obtain ⟨_, w, hw, h⟩ := Res.bind_eq_ok.1 h
  cases h
  have hcarry : f.Step t u (u.setC (g u.cpu.c m).1) := .of_keeps (.carry hb hc) ⟨rfl, rfl, rfl⟩
  exact (((readTarget_step hb hl hu).trans hcarry).trans (writeTarget_step hb hs hw)).trans
    (.of_keeps (hk w _).1 (hk w _).2)

/-- Step the operand, then update the processor. -/
theorem Operation.Within.step {k : Byte} {after : State → Byte → State} (hb : f.b = false) (hl : f.loads = true)
    (hs : f.stores = true) (hk : ∀ s r, f.Keeps s.cpu (after s r).cpu ∧ SameDevices s (after s r)) :
    Operation.Within (stepOp k after) f := by
  intro t s n s' h
  obtain ⟨m, u, hu, h⟩ := Res.bind_eq_ok.1 h
  obtain ⟨_, w, hw, h⟩ := Res.bind_eq_ok.1 h
  cases h
  exact ((readTarget_step hb hl hu).trans (writeTarget_step hb hs hw)).trans (.of_keeps (hk w _).1 (hk w _).2)

/-- Answer always, without access to the operand. -/
theorem Operation.Within.always {op : Operation} {k : Target → State → State} (h : ∀ t s, op t s = .ok 0 (k t s))
    (hk : ∀ t s, f.Keeps s.cpu (k t s).cpu ∧ SameDevices s (k t s)) : op.Within f := by
  intro t s n s' hop
  rw [h] at hop
  cases hop
  exact .of_keeps (hk t s).1 (hk t s).2

/-- Branch (rule R260). -/
theorem Operation.Within.branch {cond : Cpu → Bool} (hb : f.b = false) (hpc : f.pc = true) :
    (branchOp cond).Within f := by
  intro t s n s' h
  unfold branchOp at h
  have htaken : f.Keeps s.cpu (s.setPc t.addr).cpu := .jump hb hpc
  split_ifs at h
  · cases h; exact .of_keeps htaken ⟨rfl, rfl, rfl⟩
  · cases h; exact .of_keeps htaken ⟨rfl, rfl, rfl⟩
  · cases h; exact .of_keeps (.refl hb) ⟨rfl, rfl, rfl⟩

end

theorem opLda_within : opLda.Within (footprint "LDA") := .read rfl rfl fun _ _ => ⟨rfl, rfl, rfl, rfl⟩
theorem opLdx_within : opLdx.Within (footprint "LDX") := .read rfl rfl fun _ _ => ⟨rfl, rfl, rfl, rfl⟩
theorem opLdy_within : opLdy.Within (footprint "LDY") := .read rfl rfl fun _ _ => ⟨rfl, rfl, rfl, rfl⟩
theorem opSta_within : opSta.Within (footprint "STA") := .store rfl rfl
theorem opStx_within : opStx.Within (footprint "STX") := .store rfl rfl
theorem opSty_within : opSty.Within (footprint "STY") := .store rfl rfl
theorem opTax_within : opTax.Within (footprint "TAX") := .always (fun _ _ => rfl) fun _ _ => ⟨rfl, rfl, rfl, rfl⟩
theorem opTay_within : opTay.Within (footprint "TAY") := .always (fun _ _ => rfl) fun _ _ => ⟨rfl, rfl, rfl, rfl⟩
theorem opTxa_within : opTxa.Within (footprint "TXA") := .always (fun _ _ => rfl) fun _ _ => ⟨rfl, rfl, rfl, rfl⟩
theorem opTya_within : opTya.Within (footprint "TYA") := .always (fun _ _ => rfl) fun _ _ => ⟨rfl, rfl, rfl, rfl⟩
theorem opTsx_within : opTsx.Within (footprint "TSX") := .always (fun _ _ => rfl) fun _ _ => ⟨rfl, rfl, rfl, rfl⟩
theorem opTxs_within : opTxs.Within (footprint "TXS") := .always (fun _ _ => rfl) fun _ _ => ⟨rfl, rfl, rfl, rfl⟩
theorem opAdc_within : opAdc.Within (footprint "ADC") := .read rfl rfl fun _ _ => ⟨rfl, rfl, rfl, rfl⟩
theorem opSbc_within : opSbc.Within (footprint "SBC") := .read rfl rfl fun _ _ => ⟨rfl, rfl, rfl, rfl⟩
theorem opAnd_within : opAnd.Within (footprint "AND") := .read rfl rfl fun _ _ => ⟨rfl, rfl, rfl, rfl⟩
theorem opOra_within : opOra.Within (footprint "ORA") := .read rfl rfl fun _ _ => ⟨rfl, rfl, rfl, rfl⟩
theorem opEor_within : opEor.Within (footprint "EOR") := .read rfl rfl fun _ _ => ⟨rfl, rfl, rfl, rfl⟩
theorem opCmp_within : opCmp.Within (footprint "CMP") := .read rfl rfl fun _ _ => ⟨rfl, rfl, rfl, rfl⟩
theorem opCpx_within : opCpx.Within (footprint "CPX") := .read rfl rfl fun _ _ => ⟨rfl, rfl, rfl, rfl⟩
theorem opCpy_within : opCpy.Within (footprint "CPY") := .read rfl rfl fun _ _ => ⟨rfl, rfl, rfl, rfl⟩
theorem opBit_within : opBit.Within (footprint "BIT") := .read rfl rfl fun _ _ => ⟨rfl, rfl, rfl, rfl⟩
theorem opAsl_within : opAsl.Within (footprint "ASL") := .shift rfl rfl rfl rfl fun _ _ => ⟨rfl, rfl, rfl, rfl⟩
theorem opLsr_within : opLsr.Within (footprint "LSR") := .shift rfl rfl rfl rfl fun _ _ => ⟨rfl, rfl, rfl, rfl⟩
theorem opRol_within : opRol.Within (footprint "ROL") := .shift rfl rfl rfl rfl fun _ _ => ⟨rfl, rfl, rfl, rfl⟩
theorem opRor_within : opRor.Within (footprint "ROR") := .shift rfl rfl rfl rfl fun _ _ => ⟨rfl, rfl, rfl, rfl⟩
theorem opInc_within : opInc.Within (footprint "INC") := .step rfl rfl rfl fun _ _ => ⟨rfl, rfl, rfl, rfl⟩
theorem opDec_within : opDec.Within (footprint "DEC") := .step rfl rfl rfl fun _ _ => ⟨rfl, rfl, rfl, rfl⟩
theorem opInx_within : opInx.Within (footprint "INX") := .always (fun _ _ => rfl) fun _ _ => ⟨rfl, rfl, rfl, rfl⟩
theorem opIny_within : opIny.Within (footprint "INY") := .always (fun _ _ => rfl) fun _ _ => ⟨rfl, rfl, rfl, rfl⟩
theorem opDex_within : opDex.Within (footprint "DEX") := .always (fun _ _ => rfl) fun _ _ => ⟨rfl, rfl, rfl, rfl⟩
theorem opDey_within : opDey.Within (footprint "DEY") := .always (fun _ _ => rfl) fun _ _ => ⟨rfl, rfl, rfl, rfl⟩
theorem opBcc_within : opBcc.Within (footprint "BCC") := .branch rfl rfl
theorem opBcs_within : opBcs.Within (footprint "BCS") := .branch rfl rfl
theorem opBeq_within : opBeq.Within (footprint "BEQ") := .branch rfl rfl
theorem opBne_within : opBne.Within (footprint "BNE") := .branch rfl rfl
theorem opBmi_within : opBmi.Within (footprint "BMI") := .branch rfl rfl
theorem opBpl_within : opBpl.Within (footprint "BPL") := .branch rfl rfl
theorem opBvc_within : opBvc.Within (footprint "BVC") := .branch rfl rfl
theorem opBvs_within : opBvs.Within (footprint "BVS") := .branch rfl rfl
theorem opJmp_within : opJmp.Within (footprint "JMP") := .always (fun _ _ => rfl) fun _ _ => ⟨rfl, rfl, rfl, rfl⟩
theorem opJsr_within : opJsr.Within (footprint "JSR") := .always opJsr_eq fun _ _ => ⟨rfl, rfl, rfl, rfl⟩
theorem opRts_within : opRts.Within (footprint "RTS") := .always opRts_eq fun _ _ => ⟨rfl, rfl, rfl, rfl⟩
theorem opRti_within : opRti.Within (footprint "RTI") := .always opRti_eq fun _ _ => ⟨rfl, rfl, rfl, rfl⟩
theorem opBrk_within : opBrk.Within (footprint "BRK") := .always opBrk_eq fun _ _ => ⟨rfl, rfl, rfl, rfl⟩
theorem opPha_within : opPha.Within (footprint "PHA") := .always opPha_eq fun _ _ => ⟨rfl, rfl, rfl, rfl⟩
theorem opPhp_within : opPhp.Within (footprint "PHP") := .always opPhp_eq fun _ _ => ⟨rfl, rfl, rfl, rfl⟩
theorem opPla_within : opPla.Within (footprint "PLA") := .always opPla_eq fun _ _ => ⟨rfl, rfl, rfl, rfl⟩
theorem opPlp_within : opPlp.Within (footprint "PLP") := .always opPlp_eq fun _ _ => ⟨rfl, rfl, rfl, rfl⟩
theorem opClc_within : opClc.Within (footprint "CLC") := .always (fun _ _ => rfl) fun _ _ => ⟨rfl, rfl, rfl, rfl⟩
theorem opSec_within : opSec.Within (footprint "SEC") := .always (fun _ _ => rfl) fun _ _ => ⟨rfl, rfl, rfl, rfl⟩
theorem opCli_within : opCli.Within (footprint "CLI") := .always (fun _ _ => rfl) fun _ _ => ⟨rfl, rfl, rfl, rfl⟩
theorem opSei_within : opSei.Within (footprint "SEI") := .always (fun _ _ => rfl) fun _ _ => ⟨rfl, rfl, rfl, rfl⟩
theorem opCld_within : opCld.Within (footprint "CLD") := .always (fun _ _ => rfl) fun _ _ => ⟨rfl, rfl, rfl, rfl⟩
theorem opSed_within : opSed.Within (footprint "SED") := .always (fun _ _ => rfl) fun _ _ => ⟨rfl, rfl, rfl, rfl⟩
theorem opClv_within : opClv.Within (footprint "CLV") := .always (fun _ _ => rfl) fun _ _ => ⟨rfl, rfl, rfl, rfl⟩
theorem opNop_within : opNop.Within (footprint "NOP") := .always (fun _ _ => rfl) fun _ _ => ⟨rfl, rfl, rfl, rfl⟩
theorem opUnop_within : opUnop.Within (footprint "*NOP") := .always (fun _ _ => rfl) fun _ _ => ⟨rfl, rfl, rfl, rfl⟩
theorem opLax_within : opLax.Within (footprint "*LAX") := .read rfl rfl fun _ _ => ⟨rfl, rfl, rfl, rfl⟩
theorem opSax_within : opSax.Within (footprint "*SAX") := .store rfl rfl
theorem opUsbc_within : opUsbc.Within (footprint "*SBC") := .read rfl rfl fun _ _ => ⟨rfl, rfl, rfl, rfl⟩
theorem opDcp_within : opDcp.Within (footprint "*DCP") := .step rfl rfl rfl fun _ _ => ⟨rfl, rfl, rfl, rfl⟩
theorem opIsb_within : opIsb.Within (footprint "*ISB") := .step rfl rfl rfl fun _ _ => ⟨rfl, rfl, rfl, rfl⟩
theorem opSlo_within : opSlo.Within (footprint "*SLO") := .shift rfl rfl rfl rfl fun _ _ => ⟨rfl, rfl, rfl, rfl⟩
theorem opRla_within : opRla.Within (footprint "*RLA") := .shift rfl rfl rfl rfl fun _ _ => ⟨rfl, rfl, rfl, rfl⟩
theorem opSre_within : opSre.Within (footprint "*SRE") := .shift rfl rfl rfl rfl fun _ _ => ⟨rfl, rfl, rfl, rfl⟩
theorem opRra_within : opRra.Within (footprint "*RRA") := .shift rfl rfl rfl rfl fun _ _ => ⟨rfl, rfl, rfl, rfl⟩

/-- Every instruction's operation stays within the footprint of its mnemonic. -/
theorem rowOf_within (i : Instr) : (rowOf i).op.Within (footprint i.mnemonic) := by
  cases i with
  | ldaIndx | ldaZp | ldaImm | ldaAbs | ldaIndy | ldaZpx | ldaAbsy | ldaAbsx => exact opLda_within
  | ldxImm | ldxZp | ldxAbs | ldxZpy | ldxAbsy => exact opLdx_within
  | ldyImm | ldyZp | ldyAbs | ldyZpx | ldyAbsx => exact opLdy_within
  | staIndx | staZp | staAbs | staIndy | staZpx | staAbsy | staAbsx => exact opSta_within
  | stxZp | stxAbs | stxZpy => exact opStx_within
  | styZp | styAbs | styZpx => exact opSty_within
  | tax => exact opTax_within
  | tay => exact opTay_within
  | txa => exact opTxa_within
  | tya => exact opTya_within
  | tsx => exact opTsx_within
  | txs => exact opTxs_within
  | adcIndx | adcZp | adcImm | adcAbs | adcIndy | adcZpx | adcAbsy | adcAbsx => exact opAdc_within
  | sbcIndx | sbcZp | sbcImm | sbcAbs | sbcIndy | sbcZpx | sbcAbsy | sbcAbsx => exact opSbc_within
  | andIndx | andZp | andImm | andAbs | andIndy | andZpx | andAbsy | andAbsx => exact opAnd_within
  | oraIndx | oraZp | oraImm | oraAbs | oraIndy | oraZpx | oraAbsy | oraAbsx => exact opOra_within
  | eorIndx | eorZp | eorImm | eorAbs | eorIndy | eorZpx | eorAbsy | eorAbsx => exact opEor_within
  | cmpIndx | cmpZp | cmpImm | cmpAbs | cmpIndy | cmpZpx | cmpAbsy | cmpAbsx => exact opCmp_within
  | cpxImm | cpxZp | cpxAbs => exact opCpx_within
  | cpyImm | cpyZp | cpyAbs => exact opCpy_within
  | bitZp | bitAbs => exact opBit_within
  | aslZp | aslAcc | aslAbs | aslZpx | aslAbsx => exact opAsl_within
  | lsrZp | lsrAcc | lsrAbs | lsrZpx | lsrAbsx => exact opLsr_within
  | rolZp | rolAcc | rolAbs | rolZpx | rolAbsx => exact opRol_within
  | rorZp | rorAcc | rorAbs | rorZpx | rorAbsx => exact opRor_within
  | incZp | incAbs | incZpx | incAbsx => exact opInc_within
  | decZp | decAbs | decZpx | decAbsx => exact opDec_within
  | inx => exact opInx_within
  | iny => exact opIny_within
  | dex => exact opDex_within
  | dey => exact opDey_within
  | bcc => exact opBcc_within
  | bcs => exact opBcs_within
  | beq => exact opBeq_within
  | bne => exact opBne_within
  | bmi => exact opBmi_within
  | bpl => exact opBpl_within
  | bvc => exact opBvc_within
  | bvs => exact opBvs_within
  | jmpAbs | jmpInd => exact opJmp_within
  | jsrAbs => exact opJsr_within
  | rts => exact opRts_within
  | rti => exact opRti_within
  | brk => exact opBrk_within
  | pha => exact opPha_within
  | php => exact opPhp_within
  | pla => exact opPla_within
  | plp => exact opPlp_within
  | clc => exact opClc_within
  | sec => exact opSec_within
  | cli => exact opCli_within
  | sei => exact opSei_within
  | cld => exact opCld_within
  | sed => exact opSed_within
  | clv => exact opClv_within
  | nop => exact opNop_within
  | unopZp04 | unopAbs0C | unopZpx14 | unopImp1A | unopAbsx1C | unopZpx34 | unopImp3A | unopAbsx3C | unopZp44
  | unopZpx54 | unopImp5A | unopAbsx5C | unopZp64 | unopZpx74 | unopImp7A | unopAbsx7C | unopImm80 | unopImm82
  | unopImm89 | unopImmC2 | unopZpxD4 | unopImpDA | unopAbsxDC | unopImmE2 | unopZpxF4 | unopImpFA | unopAbsxFC =>
    exact opUnop_within
  | laxIndx | laxZp | laxAbs | laxIndy | laxZpy | laxAbsy => exact opLax_within
  | saxIndx | saxZp | saxAbs | saxZpy => exact opSax_within
  | usbcImm => exact opUsbc_within
  | dcpIndx | dcpZp | dcpAbs | dcpIndy | dcpZpx | dcpAbsy | dcpAbsx => exact opDcp_within
  | isbIndx | isbZp | isbAbs | isbIndy | isbZpx | isbAbsy | isbAbsx => exact opIsb_within
  | sloIndx | sloZp | sloAbs | sloIndy | sloZpx | sloAbsy | sloAbsx => exact opSlo_within
  | rlaIndx | rlaZp | rlaAbs | rlaIndy | rlaZpx | rlaAbsy | rlaAbsx => exact opRla_within
  | sreIndx | sreZp | sreAbs | sreIndy | sreZpx | sreAbsy | sreAbsx => exact opSre_within
  | rraIndx | rraZp | rraAbs | rraIndy | rraZpx | rraAbsy | rraAbsx => exact opRra_within

end Sys2Proof.Machine
end

section
/-! PROOFS. The footprint of a whole instruction (rule R150). -/

namespace Sys2Proof.Machine

/-- An instruction that answers resolved its operand, ran its operation and counted its cycles (rule R150). -/
theorem exec_eq_next {i : Instr} {s t : State} (h : exec i s = .next t) :
    ∃ r s1 n s2 k, resolve s i.operand = .ok r s1 ∧ (rowOf i).op r.target s1 = .ok n s2 ∧ t = s2.addCycles k := by
  rw [exec_eq_run, runInstr] at h
  obtain ⟨_, h⟩ := Res.outcome_eq_next.1 h
  obtain ⟨r, s1, hr, h⟩ := Res.bind_eq_ok.1 h
  obtain ⟨n, s2, hop, h⟩ := Res.bind_eq_ok.1 h
  cases h
  exact ⟨r, s1, n, s2, _, hr, hop, rfl⟩

/-- Reading a pointer leaves the processor alone (rules R160-R162). -/
theorem readPointer_cpu {s t : State} {ptr w : Word} (h : readPointer s ptr = .ok w t) : t.cpu = s.cpu := by
  obtain ⟨lo, u, hu, h⟩ := Res.bind_eq_ok.1 h
  obtain ⟨hi, v, hv, h⟩ := Res.bind_eq_ok.1 h
  cases h
  exact (memRead_cpu hv).trans (memRead_cpu hu)

/-- The mode function leaves the processor alone until PC moves (rule R150). -/
theorem effective_cpu {s t : State} {o : Operand} {r : Resolved} (h : effective s o = .ok r t) : t.cpu = s.cpu := by
  cases o with
  | ind _ | indx _ | indy _ =>
    obtain ⟨w, u, hu, h⟩ := Res.bind_eq_ok.1 h
    cases h
    exact readPointer_cpu hu
  | imp | acc | imm _ | zp _ | zpx _ | zpy _ | abs _ | absx _ | absy _ | rel _ =>
    cases h
    rfl

/-- The mode function moves PC past the instruction and changes nothing else of the processor (rule R150). -/
theorem resolve_cpu {s t : State} {o : Operand} {r : Resolved} (h : resolve s o = .ok r t) :
    t.cpu = (past s o).cpu := by
  obtain ⟨r', u, hu, h⟩ := Res.bind_eq_ok.1 h
  cases h
  have hcpu := effective_cpu hu
  rw [past, ← hcpu]
  rfl

/-- Only the accumulator mode has the accumulator as its target (rule R152). -/
theorem operand_eq_acc {s t : State} {o : Operand} {r : Resolved} (h : effective s o = .ok r t)
    (hr : r.target = .acc) : o = .acc := by
  cases o with
  | acc => rfl
  | ind _ | indx _ | indy _ =>
    obtain ⟨w, u, -, h⟩ := Res.bind_eq_ok.1 h
    cases h
    cases hr
  | imp | imm _ | zp _ | zpx _ | zpy _ | abs _ | absx _ | absy _ | rel _ =>
    cases h
    cases hr

/-- What an instruction writes of the processor: PC past the instruction, `cycles`, and its footprint. -/
theorem exec_keeps {i : Instr} {s t : State} (h : exec i s = .next t) :
    ∃ target, (target = .acc → i.operand = .acc) ∧
      ((footprint i.mnemonic).onTarget target).Keeps (past s i.operand).cpu t.cpu := by
  obtain ⟨r, s1, n, s2, k, hr, hop, rfl⟩ := exec_eq_next h
  obtain ⟨r', u, hu, he⟩ := Res.bind_eq_ok.1 hr
  have htarget : r.target = .acc → i.operand = .acc := by
    cases he
    exact operand_eq_acc hu
  have hkeeps := (rowOf_within i _ _ _ _ hop).cpu.addCycles k
  rw [resolve_cpu hr] at hkeeps
  exact ⟨r.target, htarget, hkeeps⟩

/-- A mnemonic outside a list. -/
theorem contains_eq_false {m : String} {l : List String} (h : m ∉ l) : l.contains m = false :=
  Bool.eq_false_iff.2 (mt List.contains_iff_mem.1 h)

/-- Settles O40: each register outside the instruction's footprint keeps its value, PC once past the instruction. -/
theorem registerWriters : Obligations.RegisterWriters := by
  intro i s t h
  obtain ⟨target, htarget, hkeeps⟩ := exec_keeps h
  refine ⟨fun hm hacc => ?_, fun hm => ?_, fun hm => ?_, fun hm => ?_, fun hm => ?_⟩
  · refine hkeeps.a ?_
    have hne : target ≠ .acc := fun e => hacc (htarget e)
    rw [Footprint.onTarget, decide_eq_false hne, Bool.or_false]
    exact contains_eq_false hm
  · exact hkeeps.x (contains_eq_false hm)
  · exact hkeeps.y (contains_eq_false hm)
  · exact hkeeps.sp (contains_eq_false hm)
  · exact hkeeps.pc (contains_eq_false hm)

/-- Settles O41: each flag outside the instruction's footprint keeps its value, and B is written only as 0. -/
theorem flagWriters : Obligations.FlagWriters := by
  intro i s t h
  obtain ⟨target, -, hkeeps⟩ := exec_keeps h
  refine ⟨fun hm => ?_, fun hm => ?_, fun hm => ?_, fun hm => ?_, fun hm => ?_, fun hm => ?_, fun hm => ?_⟩
  · exact hkeeps.c (contains_eq_false hm)
  · exact hkeeps.zn (contains_eq_false hm)
  · exact hkeeps.v (contains_eq_false hm)
  · exact hkeeps.i (contains_eq_false hm)
  · exact hkeeps.d (contains_eq_false hm)
  · exact hkeeps.b (contains_eq_false hm)
  · have hmem : i.mnemonic ∈ ["PLP", "RTI"] := by simpa using hm
    exact hkeeps.b_clear (List.contains_iff_mem.2 hmem)

end Sys2Proof.Machine
end

section
/-! PROOFS. The device frame of an instruction (rules R60, R62, R467, R471). -/

namespace Sys2Proof.Machine

/-- Whether an operand suits an instruction that reads or stores it as given: an immediate byte is never stored to, and
the modes of jumps and branches name no data. -/
def accessSuits (loads stores : Bool) : Operand → Bool
  | .imm _ => !stores
  | .ind _ | .rel _ => !(loads || stores)
  | .imp | .acc | .zp _ | .zpx _ | .zpy _ | .abs _ | .absx _ | .absy _ | .indx _ | .indy _ => true

theorem accessSuits_operand (i : Instr) : accessSuits (loading i) (storing i) i.operand = true := by
  cases i <;> rfl

/-- Both bytes of a pointer in RAM or ROM are off the devices, so reading it has no side effect (rule R160). -/
theorem readPointer_plain {s t : State} {a w : Word} (ha : a.toNat < 0x2000 ∨ 0x6000 ≤ a.toNat)
    (h : readPointer s a = .ok w t) : t = s := by
  have hnext : (nextInPage a).toNat < 0x2000 ∨ 0x6000 ≤ (nextInPage a).toNat := by
    rw [nextInPage_toNat]
    omega
  obtain ⟨lo, u, hu, h⟩ := Res.bind_eq_ok.1 h
  obtain ⟨hi, v, hv, h⟩ := Res.bind_eq_ok.1 h
  cases h
  rw [memRead_offDevices (offDevices_of_plain hnext) hv, memRead_offDevices (offDevices_of_plain ha) hu]

/-- The mode function has no side effect, unless it reads a jump's pointer from a device register. -/
theorem effective_plain {s t : State} {o : Operand} {r : Resolved}
    (hind : ∀ a, o = .ind a → a.toNat < 0x2000 ∨ 0x6000 ≤ a.toNat) (h : effective s o = .ok r t) : t = s := by
  cases ho : operandAddr s o with
  | some ea =>
    rw [effective_eq ho] at h
    cases h
    rfl
  | none =>
    cases o with
    | imp | acc | imm _ | rel _ => cases h; rfl
    | ind a =>
      obtain ⟨w, u, hu, h⟩ := Res.bind_eq_ok.1 h
      cases h
      exact readPointer_plain (hind a rfl) hu
    | zp _ | zpx _ | zpy _ | abs _ | absx _ | absy _ | indx _ | indy _ => cases ho

/-- An instruction whose data address is off the devices has a target that avoids them. -/
theorem avoids_target {i : Instr} {s t : State} {r : Resolved}
    (hea : ∀ ea, (loading i || storing i) = true → operandAddr s i.operand = some ea → OffDevices ea)
    (h : effective s i.operand = .ok r t) : (footprint i.mnemonic).Avoids r.target := by
  have hsuits := accessSuits_operand i
  cases ho : operandAddr s i.operand with
  | some ea =>
    rw [effective_eq ho] at h
    cases h
    exact fun haccess => hea ea haccess ho
  | none =>
    generalize i.operand = o at *
    cases o with
    | imp | acc =>
      cases h
      trivial
    | imm v =>
      cases h
      exact Bool.eq_false_of_not_eq_true' hsuits
    | rel d =>
      cases h
      exact fun haccess => absurd haccess (Bool.eq_false_iff.1 (Bool.eq_false_of_not_eq_true' hsuits))
    | ind a =>
      obtain ⟨w, u, -, h⟩ := Res.bind_eq_ok.1 h
      cases h
      exact fun haccess => absurd haccess (Bool.eq_false_iff.1 (Bool.eq_false_of_not_eq_true' hsuits))
    | zp _ | zpx _ | zpy _ | abs _ | absx _ | absy _ | indx _ | indy _ => cases ho

/-- An instruction whose data address and jump pointer are off the devices touches none. -/
theorem exec_sameDevices {i : Instr} {s t : State} (h : exec i s = .next t)
    (hea : ∀ ea, (loading i || storing i) = true → operandAddr s i.operand = some ea → OffDevices ea)
    (hind : ∀ a, i.operand = .ind a → a.toNat < 0x2000 ∨ 0x6000 ≤ a.toNat) : SameDevices s t := by
  obtain ⟨r, s1, n, s2, k, hr, hop, rfl⟩ := exec_eq_next h
  obtain ⟨r', u, hu, he⟩ := Res.bind_eq_ok.1 hr
  cases he
  have havoids := avoids_target hea hu
  obtain rfl := effective_plain hind hu
  obtain ⟨hppu, hnmi, hhost⟩ := (rowOf_within i _ _ _ _ hop).devices havoids
  exact ⟨hppu, hnmi, hhost⟩

/-- Settles O43: the configuration is what every instruction keeps, and the devices are left alone by an instruction
that stays off them. -/
theorem pictureAndHostFrame : Obligations.PictureAndHostFrame := by
  intro i s t h
  obtain ⟨hcart, hparams, hfault⟩ := (exec_moves h).sameConfig
  refine ⟨hcart, hparams, hfault, fun hea hind => ?_⟩
  obtain ⟨hppu, hnmi, hhost⟩ := exec_sameDevices h (fun ea haccess => hea ea (by simpa using haccess)) hind
  exact ⟨hppu, hnmi, hhost⟩

end Sys2Proof.Machine
end

section
/-! PROOFS. The CPU-side bus by range (rules R71-R80) and the controller port (rule R76). -/

namespace Sys2Proof.Machine

/-- The expansion area (rule R78). -/
theorem memRead_expansion {s : State} {a : Word} (h : 0x4020 ≤ a.toNat) (h' : a.toNat < 0x6000) :
    memRead s a = .fatal (.unimplemented .expansion a.toNat none) s := by
  rw [memRead, if_neg (by omega), if_neg (by omega), if_pos h]

/-- The IO block without the controller port (rule R75). -/
theorem memRead_io {s : State} {a : Word} (h : 0x4000 ≤ a.toNat) (h' : a.toNat < 0x4020) (hport : a ≠ 0x4016) :
    memRead s a = .ok s.params.ioReadValue s := by
  have hne : a.toNat ≠ 0x4016 := fun e => hport (BitVec.eq_of_toNat_eq e)
  rw [memRead, if_neg (by omega), if_neg (by omega), if_neg (by omega), if_pos h, if_neg hne]

/-- The controller port (rule R76). -/
theorem memRead_controller (s : State) :
    memRead s 0x4016 = .ok (s.params.controllerReadUpper ++ (controllerRead s).1) (controllerRead s).2 := rfl

/-- The picture registers and their mirrors (rule R74). -/
theorem memRead_picture {s : State} {a : Word} (h : 0x2000 ≤ a.toNat) (h' : a.toNat < 0x4000) :
    memRead s a = .ok (ppuRegRead s (a.toNat % 8)).1 (ppuRegRead s (a.toNat % 8)).2 := by
  rw [memRead, if_neg (by omega), if_neg (by omega), if_neg (by omega), if_neg (by omega), if_pos h]

/-- Program ROM (rule R80). -/
theorem memWrite_rom {s : State} {a : Word} {v : Byte} (h : 0x8000 ≤ a.toNat) :
    memWrite s a v = .fatal (.unimplemented .programRom a.toNat (some v)) s := by
  rw [memWrite, if_pos h]

/-- The expansion area (rule R78). -/
theorem memWrite_expansion {s : State} {a : Word} {v : Byte} (h : 0x4020 ≤ a.toNat) (h' : a.toNat < 0x6000) :
    memWrite s a v = .fatal (.unimplemented .expansion a.toNat (some v)) s := by
  rw [memWrite, if_neg (by omega), if_neg (by omega), if_pos h]

/-- OAM DMA (rule R77). -/
theorem memWrite_dma (s : State) (v : Byte) : memWrite s 0x4014 v = oamDma s v := rfl

/-- The controller port (rule R76). -/
theorem memWrite_controller (s : State) (v : Byte) :
    memWrite s 0x4016 v = .ok () (controllerWrite s (v.setWidth 1)) := rfl

/-- The rest of the IO block (rule R75). -/
theorem memWrite_io {s : State} {a : Word} {v : Byte} (h : 0x4000 ≤ a.toNat) (h' : a.toNat < 0x4020)
    (hdma : a ≠ 0x4014) (hport : a ≠ 0x4016) : memWrite s a v = .ok () s := by
  have hne : a.toNat ≠ 0x4014 := fun e => hdma (BitVec.eq_of_toNat_eq e)
  have hne' : a.toNat ≠ 0x4016 := fun e => hport (BitVec.eq_of_toNat_eq e)
  rw [memWrite, if_neg (by omega), if_neg (by omega), if_neg (by omega), if_pos h, if_neg hne, if_neg hne']

/-- The picture registers and their mirrors (rule R74). -/
theorem memWrite_picture {s : State} {a : Word} {v : Byte} (h : 0x2000 ≤ a.toNat) (h' : a.toNat < 0x4000) :
    memWrite s a v = ppuRegWrite s (a.toNat % 8) v := by
  rw [memWrite, if_neg (by omega), if_neg (by omega), if_neg (by omega), if_neg (by omega), if_pos h]

/-- Settles O10, range by range. -/
theorem cpuBusMap : Obligations.CpuBusMap := by
  intro s a v
  refine ⟨fun h => ?_, fun h h' => ?_, fun h h' => ?_, fun h h' => ?_, fun h h' => ?_, fun h => ?_⟩
  · exact ⟨memRead_rom h, memWrite_rom h⟩
  · exact ⟨memRead_sram h h', memWrite_sram h h'⟩
  · exact ⟨memRead_expansion h h', memWrite_expansion h h'⟩
  · exact ⟨memRead_io h h', fun e => e ▸ memWrite_dma s v, memWrite_io h h'⟩
  · exact ⟨memRead_picture h h', memWrite_picture h h'⟩
  · exact ⟨memRead_wram h, memWrite_wram h⟩

/-- The strobe bit of a written byte (rule R76). -/
theorem setWidth_one_eq_ofBool (v : Byte) : v.setWidth 1 = BitVec.ofBool (v.getLsbD 0) := by
  revert v
  decide

/-- Settles O11: the next answer of the host, or the free value when there is none, and the strobe bit. -/
theorem controllerPort : Obligations.ControllerPort := by
  intro s
  refine ⟨fun b rest h => ?_, fun h => ⟨Config.controllerBit s.host.controllerReads, ?_⟩, fun v => ?_⟩
  · rw [memRead_controller, controllerRead, h]
    rfl
  · rw [memRead_controller, controllerRead, h]
    rfl
  · rw [memWrite_controller, setWidth_one_eq_ofBool]
    rfl

end Sys2Proof.Machine
end

section
/-! PROOFS. Plain memory after a write to RAM (rules R73, R79), and the stack as part of it (rules R84, R85). -/

namespace Sys2Proof.Machine

/-- Plain memory after a write to work RAM: the byte shows at each of its mirrors (rule R73). -/
theorem peek_write_wram {s : State} {ea a : Word} {v : Byte} (hs : s.wram.wf 2048 = true) :
    peek (s.setWram (s.wram.write (ea.toNat % 0x800) v)) a =
      if a.toNat < 0x2000 ∧ ea.toNat % 0x800 = a.toNat % 0x800 then some v else peek s a := by
  by_cases ha : a.toNat < 0x2000
  · have h1 : ¬ 0x8000 ≤ a.toNat := by omega
    have h2 : ¬ 0x6000 ≤ a.toNat := by omega
    have h3 : ¬ 0x2000 ≤ a.toNat := by omega
    simp only [peek, h1, h2, h3, if_false, State.setWram_wram, Memory.read_write hs, ha, true_and]
    split_ifs <;> rfl
  · have h3 : 0x2000 ≤ a.toNat := by omega
    simp only [peek, h3, if_true, ha, false_and, if_false]
    rfl

/-- Plain memory after a write to static RAM (rule R79). -/
theorem peek_write_sram {s : State} {ea a : Word} {v : Byte} (hs : s.sram.wf 8192 = true) (h : 0x6000 ≤ ea.toNat)
    (h' : ea.toNat < 0x8000) :
    peek (s.setSram (s.sram.write (ea.toNat - 0x6000) v)) a = if ea = a then some v else peek s a := by
  by_cases he : ea = a
  · subst he
    rw [if_pos rfl, peek, if_neg (by omega), if_pos h, State.setSram_sram, Memory.read_write_same hs]
  · rw [if_neg he]
    have hne : ea.toNat ≠ a.toNat := fun e => he (BitVec.eq_of_toNat_eq e)
    unfold peek
    split_ifs
    · rfl
    · rw [State.setSram_sram, Memory.read_write_other hs (by omega)]
    · rfl
    · rfl

/-- A write to RAM changes that RAM alone, and plain memory at the addresses that reach the byte written. -/
theorem memWrite_ram {s : State} {ea : Word} {v : Byte} (hs : MemoriesWf s) (hea : ramAddr ea) :
    ∃ t, memWrite s ea v = .ok () t ∧ t = { s with wram := t.wram, sram := t.sram } ∧
      (∀ a, sameRamByte ea a → peek t a = some v) ∧ (∀ a, ¬ sameRamByte ea a → peek t a = peek s a) := by
  obtain ⟨hwram, hsram, -⟩ := hs
  rcases hea with h | ⟨h, h'⟩
  · refine ⟨_, memWrite_wram h, rfl, fun a ha => ?_, fun a ha => ?_⟩
    · rw [peek_write_wram hwram, if_pos]
      rcases ha with ⟨-, h1, h2⟩ | ⟨h1, -⟩
      · exact ⟨h1, h2⟩
      · omega
    · rw [peek_write_wram hwram, if_neg fun e => ha (.inl ⟨h, e⟩)]
  · refine ⟨_, memWrite_sram h h', rfl, fun a ha => ?_, fun a ha => ?_⟩
    · rw [peek_write_sram hsram h h', if_pos]
      rcases ha with ⟨h1, -⟩ | ⟨-, -, e⟩
      · omega
      · exact e
    · rw [peek_write_sram hsram h h', if_neg fun e => ha (.inr ⟨h, h', e⟩)]

/-- A RAM address reaches its own byte. -/
theorem sameRamByte_self {a : Word} (ha : ramAddr a) : sameRamByte a a := by
  rcases ha with h | ⟨h, h'⟩
  · exact .inl ⟨h, h, rfl⟩
  · exact .inr ⟨h, h', rfl⟩

/-- Settles O12: where plain memory shows a byte, a bus read answers it without side effect. -/
theorem ramRoundTrip : Obligations.RamRoundTrip := by
  intro s a v hs ha
  obtain ⟨t, hwrite, hframe, hsame, hother⟩ := memWrite_ram (v := v) hs ha
  have hread : ∀ b, sameRamByte a b → memRead t b = .ok v t := fun b hb => memRead_plain (hsame b hb)
  exact ⟨t, hwrite, hread a (sameRamByte_self ha), fun b hb => ⟨hsame b hb, hread b hb⟩, hother, hframe⟩

/-- The stack offsets of the obligations, in the form the stack operations have (rule R84). -/
theorem below_zero (s : State) : below s 0 = 0x100 + s.cpu.sp.toNat := by simp [below]

theorem below_one (s : State) : below s 1 = 0x100 + (s.cpu.sp - 1).toNat := rfl

theorem below_zero_ne_one (s : State) : below s 0 ≠ below s 1 := by
  rw [below_zero, below_one]
  have h : s.cpu.sp ≠ s.cpu.sp - 1 := by bv_omega
  exact fun e => h (BitVec.eq_of_toNat_eq (Nat.add_left_cancel e))

/-- `Push16` and `Pull16` are inverse (rule R85). -/
theorem push16_pull16 {s : State} (hs : s.wram.wf 2048 = true) (w : Word) :
    ∃ t, push16 s w = .ok () t ∧ t.wram.read (below s 0) = hiByte w ∧ t.wram.read (below s 1) = loByte w ∧
      (∀ k, k ≠ below s 0 → k ≠ below s 1 → t.wram.read k = s.wram.read k) ∧
      t = { s with wram := t.wram, cpu := { s.cpu with sp := s.cpu.sp - 2 } } ∧
      pull16 t = .ok w { t with cpu := s.cpu } := by
  have hsp : s.cpu.sp - 1 - 1 = s.cpu.sp - 2 := by bv_omega
  have hone : s.cpu.sp - 2 + 1 = s.cpu.sp - 1 := by bv_omega
  have htwo : s.cpu.sp - 1 + 1 = s.cpu.sp := by bv_omega
  have hfirst : (s.wram.write (below s 0) (hiByte w)).wf 2048 = true :=
    Memory.wf_write (by have := s.cpu.sp.isLt; rw [below_zero]; omega) hs
  have hhi : ((s.wram.write (below s 0) (hiByte w)).write (below s 1) (loByte w)).read (below s 0) = hiByte w := by
    rw [Memory.read_write_other hfirst (below_zero_ne_one s).symm, Memory.read_write_same hs]
  have hlo : ((s.wram.write (below s 0) (hiByte w)).write (below s 1) (loByte w)).read (below s 1) = loByte w :=
    Memory.read_write_same hfirst
  refine ⟨_, push16_eq s w, ?_, ?_, fun k h0 h1 => ?_, ?_, ?_⟩
  · rw [← below_zero, ← below_one]
    exact hhi
  · rw [← below_zero, ← below_one]
    exact hlo
  · rw [← below_zero, ← below_one, State.setSp_wram, State.setWram_wram, Memory.read_write_other hfirst h1.symm,
      Memory.read_write_other hs h0.symm]
  · rw [hsp]
    rfl
  · rw [pull16_eq, hsp, State.setSp_sp, hone, htwo, ← below_zero, ← below_one, State.setSp_wram, State.setWram_wram,
      hhi, hlo, wordOf_halves]
    rfl

/-- `Push` and `Pull` are inverse (rule R84). -/
theorem push_pull {s : State} (hs : s.wram.wf 2048 = true) (v : Byte) :
    ∃ t, push s v = .ok () t ∧ t.wram.read (below s 0) = v ∧
      (∀ k, k ≠ below s 0 → t.wram.read k = s.wram.read k) ∧
      t = { s with wram := t.wram, cpu := { s.cpu with sp := s.cpu.sp - 1 } } ∧
      pull t = .ok v { t with cpu := s.cpu } := by
  have hone : s.cpu.sp - 1 + 1 = s.cpu.sp := by bv_omega
  have hread : (s.wram.write (below s 0) v).read (below s 0) = v := Memory.read_write_same hs
  refine ⟨_, push_eq s v, ?_, fun k h0 => ?_, rfl, ?_⟩
  · rw [← below_zero]
    exact hread
  · rw [← below_zero]
    exact Memory.read_write_other hs h0.symm
  · rw [pull_eq, State.setSp_sp, hone, ← below_zero, State.setSp_wram, State.setWram_wram, hread]
    rfl

/-- Settles O16: the two bytes lie at different offsets of the stack page, for SP moves by one modulo 256. -/
theorem stackRoundTrip : Obligations.StackRoundTrip := by
  rintro s w v ⟨hwram, -⟩
  exact ⟨push16_pull16 hwram w, push_pull hwram v⟩

end Sys2Proof.Machine
end

section
/-! PROOFS. The picture-side bus: the palette's shared entries (rule R93) and name-table mirroring (rules R91-R95). -/

namespace Sys2Proof.Machine

theorem palIndex_mod (a : Nat) : palIndex (a % 0x4000) = palIndex a := by
  have h : a % 0x4000 % 0x20 = a % 0x20 := by omega
  rw [palIndex, h, palIndex]

/-- Two palette addresses share an entry when they agree modulo 32, or both name the shared entry 0 of a group. -/
theorem palIndex_eq_iff (a b : Nat) :
    palIndex a = palIndex b ↔ a % 32 = b % 32 ∨ (a % 4 = 0 ∧ b % 4 = 0 ∧ a % 16 = b % 16) := by
  unfold palIndex
  dsimp only
  split_ifs <;> omega

theorem ppuRead_palette {s : State} {a : Nat} (h : 0x3F00 ≤ a % 0x4000) :
    ppuRead s a = s.ppu.palette.read (palIndex a) := by
  rw [ppuRead]
  rw [if_pos h, palIndex_mod]

theorem ppuWrite_palette {s : State} {a : Nat} {v : Byte} (h : 0x3F00 ≤ a % 0x4000) :
    ppuWrite s a v = .ok () (s.setPpu { s.ppu with palette := s.ppu.palette.write (palIndex a) v }) := by
  rw [ppuWrite]
  dsimp only
  rw [if_pos h, palIndex_mod]

/-- Settles O13: palette reads and writes go through `palIndex`. -/
theorem paletteRoundTrip : Obligations.PaletteRoundTrip := by
  refine ⟨fun s a b v hs ha hb => ⟨_, ppuWrite_palette ha, ?_, ?_, rfl⟩, palIndex_eq_iff⟩
  · obtain ⟨-, -, -, hpalette, -⟩ := hs
    rw [ppuRead_palette ha]
    exact Memory.read_write_same hpalette
  · obtain ⟨-, -, -, hpalette, -⟩ := hs
    rw [ppuRead_palette hb, ppuRead_palette hb]
    exact Memory.read_write hpalette

theorem ppuWrite_mod (s : State) (a : Nat) (v : Byte) : ppuWrite s (a % 0x4000) v = ppuWrite s a v := by
  unfold ppuWrite
  rw [Nat.mod_mod]

theorem ppuRead_pattern {s : State} {a : Nat} (h : a < 0x2000) : ppuRead s a = s.cart.chr.read a := by
  have hmod : a % 0x4000 = a := Nat.mod_eq_of_lt (by omega)
  rw [ppuRead]
  rw [hmod, if_neg (by omega), if_neg (by omega)]

theorem ppuWrite_pattern {s : State} {a : Nat} {v : Byte} (h : a < 0x2000) :
    ppuWrite s a v = .fatal (.unimplemented .patternData a (some v)) s := by
  have hmod : a % 0x4000 = a := Nat.mod_eq_of_lt (by omega)
  rw [ppuWrite]
  dsimp only
  rw [hmod, if_neg (by omega), if_neg (by omega)]

theorem ppuRead_nametable {s : State} {a : Nat} (h : 0x2000 ≤ a) (h' : a < 0x3F00) :
    ppuRead s a = s.ppu.nametable.read (nametableOffset s.cart.mirroring a) := by
  have hmod : a % 0x4000 = a := Nat.mod_eq_of_lt (by omega)
  rw [ppuRead]
  rw [hmod, if_neg (by omega), if_pos h]

theorem ppuWrite_nametable {s : State} {a : Nat} {v : Byte} (h : 0x2000 ≤ a) (h' : a < 0x3F00) :
    ppuWrite s a v = .ok () (s.setPpu { s.ppu with
      nametable := s.ppu.nametable.write (nametableOffset s.cart.mirroring a) v }) := by
  have hmod : a % 0x4000 = a := Nat.mod_eq_of_lt (by omega)
  rw [ppuWrite]
  dsimp only
  rw [hmod, if_neg (by omega), if_pos h]

/-- The upper name-table range repeats the lower (rules R91, R92). -/
theorem nametableOffset_repeats (m : Mirroring) {a : Nat} (h : 0x3000 ≤ a) (h' : a < 0x3F00) :
    nametableOffset m a = nametableOffset m (a - 0x1000) := by
  have hlow : ¬ 0x3000 ≤ a - 0x1000 := by omega
  unfold nametableOffset
  rw [if_pos h, if_neg hlow]

/-- Mirroring sends two addresses to one offset exactly when their physical tables are one (rule R94). -/
theorem nametableOffset_eq_iff (m : Mirroring) {a b : Nat} (ha : 0x2000 ≤ a) (ha' : a < 0x3000) (hb : 0x2000 ≤ b)
    (hb' : b < 0x3000) : nametableOffset m a = nametableOffset m b ↔ sameNametableByte m a b := by
  have hlow : ¬ 0x3000 ≤ a := by omega
  have hlow' : ¬ 0x3000 ≤ b := by omega
  unfold nametableOffset
  rw [if_neg hlow, if_neg hlow']
  cases m with
  | horizontal =>
    simp only [ntMirror, sameNametableByte, physicalTable]
    split_ifs <;> omega
  | vertical =>
    simp only [ntMirror, sameNametableByte, physicalTable]
    omega
  | fourScreen =>
    simp only [ntMirror, sameNametableByte, physicalTable]
    omega

/-- Settles O14: each region of the picture side, the name tables by their offsets. -/
theorem pictureBusMap : Obligations.PictureBusMap := by
  intro s a b v hs
  refine ⟨⟨(ppuRead_mod s a).symm, (ppuWrite_mod s a v).symm⟩, fun h => ⟨ppuRead_pattern h, ppuWrite_pattern h⟩,
    fun ha ha' hb hb' => ?_, fun h h' => ⟨?_, ?_⟩, fun h h' => ppuRead_palette (by omega)⟩
  · obtain ⟨-, -, -, -, hnametable, -⟩ := hs
    refine ⟨_, ppuWrite_nametable ha (by omega), fun hsame => ?_, fun hsame => ?_, rfl⟩
    · rw [← nametableOffset_eq_iff _ ha ha' hb hb'] at hsame
      rw [ppuRead_nametable hb (by omega), State.setPpu_cart, ← hsame]
      exact Memory.read_write_same hnametable
    · rw [← nametableOffset_eq_iff _ ha ha' hb hb'] at hsame
      rw [ppuRead_nametable hb (by omega), ppuRead_nametable hb (by omega)]
      exact Memory.read_write_other hnametable hsame
  · rw [ppuRead_nametable (by omega) h', ppuRead_nametable (by omega) (by omega), nametableOffset_repeats _ h h']
  · rw [ppuWrite_nametable (by omega) h', ppuWrite_nametable (by omega) (by omega), nametableOffset_repeats _ h h']

end Sys2Proof.Machine
end

section
/-! PROOFS. How each operation uses its operand and the stack (rules R84, R166), said once for every instruction. -/

namespace Sys2Proof.Machine

/-- The state after bytes have been pushed, first byte first (rule R84). -/
def pushAll (s : State) : List Byte → State
  | [] => s
  | v :: vs => pushAll ((s.setWram (s.wram.write (0x100 + s.cpu.sp.toNat) v)).setSp (s.cpu.sp - 1)) vs

/-- How an operation uses its operand and the stack: it reads its operand or stores to it only where the footprint says
so, and pushes at most `p` bytes. What it does besides concerns the processor alone. -/
inductive Access (f : Footprint) (p : Nat) : Operation → Prop
  | read {k : Byte → State → State} (hl : f.loads = true) (hk : ∀ v s, SameOutsideCpu s (k v s)) :
      Access f p fun t s => (readTarget s t).bind fun v s1 => .ok 0 (k v s1)
  | store {value : State → Byte} (hs : f.stores = true) : Access f p fun t s => storeOp (value s) t s
  | shift {g : ShiftFn} {after : State → Byte → State} (hl : f.loads = true) (hs : f.stores = true)
      (hk : ∀ s r, SameOutsideCpu s (after s r)) : Access f p (shiftOp g after)
  | step {k : Byte} {after : State → Byte → State} (hl : f.loads = true) (hs : f.stores = true)
      (hk : ∀ s r, SameOutsideCpu s (after s r)) : Access f p (stepOp k after)
  | push {op : Operation} (h : ∀ t s, ∃ vs n s', vs.length ≤ p ∧ op t s = .ok n s' ∧
      SameOutsideCpu (pushAll s vs) s') : Access f p op

section
variable {f : Footprint} {p : Nat}

/-- An operation on the processor alone. -/
theorem Access.quiet {op : Operation} {k : Target → State → State} (h : ∀ t s, op t s = .ok 0 (k t s))
    (hk : ∀ t s, SameOutsideCpu s (k t s)) : Access f p op :=
  .push fun t s => ⟨[], 0, k t s, Nat.zero_le p, h t s, hk t s⟩

/-- A branch moves PC or nothing (rule R260). -/
theorem branchOp_access (cond : Cpu → Bool) : Access f p (branchOp cond) := by
  refine .push fun t s => ?_
  cases hc : cond s.cpu with
  | true => exact ⟨[], _, s.setPc t.addr, Nat.zero_le p, if_pos hc, rfl⟩
  | false => exact ⟨[], 0, s, Nat.zero_le p, if_neg (Bool.eq_false_iff.1 hc), rfl⟩

theorem opLda_access : Access (footprint "LDA") p opLda := .read rfl fun _ _ => rfl
theorem opLdx_access : Access (footprint "LDX") p opLdx := .read rfl fun _ _ => rfl
theorem opLdy_access : Access (footprint "LDY") p opLdy := .read rfl fun _ _ => rfl
theorem opAdc_access : Access (footprint "ADC") p opAdc := .read rfl fun _ _ => rfl
theorem opSbc_access : Access (footprint "SBC") p opSbc := .read rfl fun _ _ => rfl
theorem opAnd_access : Access (footprint "AND") p opAnd := .read rfl fun _ _ => rfl
theorem opOra_access : Access (footprint "ORA") p opOra := .read rfl fun _ _ => rfl
theorem opEor_access : Access (footprint "EOR") p opEor := .read rfl fun _ _ => rfl
theorem opCmp_access : Access (footprint "CMP") p opCmp := .read rfl fun _ _ => rfl
theorem opCpx_access : Access (footprint "CPX") p opCpx := .read rfl fun _ _ => rfl
theorem opCpy_access : Access (footprint "CPY") p opCpy := .read rfl fun _ _ => rfl
theorem opBit_access : Access (footprint "BIT") p opBit := .read rfl fun _ _ => rfl
theorem opLax_access : Access (footprint "*LAX") p opLax := .read rfl fun _ _ => rfl
theorem opUsbc_access : Access (footprint "*SBC") p opUsbc := .read rfl fun _ _ => rfl
theorem opSta_access : Access (footprint "STA") p opSta := .store rfl
theorem opStx_access : Access (footprint "STX") p opStx := .store rfl
theorem opSty_access : Access (footprint "STY") p opSty := .store rfl
theorem opSax_access : Access (footprint "*SAX") p opSax := .store rfl
theorem opAsl_access : Access (footprint "ASL") p opAsl := .shift rfl rfl fun _ _ => rfl
theorem opLsr_access : Access (footprint "LSR") p opLsr := .shift rfl rfl fun _ _ => rfl
theorem opRol_access : Access (footprint "ROL") p opRol := .shift rfl rfl fun _ _ => rfl
theorem opRor_access : Access (footprint "ROR") p opRor := .shift rfl rfl fun _ _ => rfl
theorem opSlo_access : Access (footprint "*SLO") p opSlo := .shift rfl rfl fun _ _ => rfl
theorem opRla_access : Access (footprint "*RLA") p opRla := .shift rfl rfl fun _ _ => rfl
theorem opSre_access : Access (footprint "*SRE") p opSre := .shift rfl rfl fun _ _ => rfl
theorem opRra_access : Access (footprint "*RRA") p opRra := .shift rfl rfl fun _ _ => rfl
theorem opInc_access : Access (footprint "INC") p opInc := .step rfl rfl fun _ _ => rfl
theorem opDec_access : Access (footprint "DEC") p opDec := .step rfl rfl fun _ _ => rfl
theorem opDcp_access : Access (footprint "*DCP") p opDcp := .step rfl rfl fun _ _ => rfl
theorem opIsb_access : Access (footprint "*ISB") p opIsb := .step rfl rfl fun _ _ => rfl

theorem opPha_access : Access f 1 opPha :=
  .push fun t s => ⟨[s.cpu.a], 0, _, Nat.le_refl 1, opPha_eq t s, rfl⟩

theorem opPhp_access : Access f 1 opPhp :=
  .push fun t s => ⟨[pushedStatus s.cpu], 0, _, Nat.le_refl 1, opPhp_eq t s, rfl⟩

theorem opJsr_access : Access f 2 opJsr :=
  .push fun t s => ⟨[hiByte (s.cpu.pc - 1), loByte (s.cpu.pc - 1)], 0, _, Nat.le_refl 2, opJsr_eq t s, rfl⟩

theorem opBrk_access : Access f 3 opBrk :=
  .push fun t s =>
    ⟨[hiByte (s.cpu.pc + 1), loByte (s.cpu.pc + 1), pushedStatus s.cpu], 0, _, Nat.le_refl 3, opBrk_eq t s, rfl⟩

end

/-- Every instruction's operation accesses memory as its mnemonic says. -/
theorem rowOf_access (i : Instr) : Access (footprint i.mnemonic) (pushed i) (rowOf i).op := by
  cases i with
  | ldaIndx | ldaZp | ldaImm | ldaAbs | ldaIndy | ldaZpx | ldaAbsy | ldaAbsx => exact opLda_access
  | ldxImm | ldxZp | ldxAbs | ldxZpy | ldxAbsy => exact opLdx_access
  | ldyImm | ldyZp | ldyAbs | ldyZpx | ldyAbsx => exact opLdy_access
  | staIndx | staZp | staAbs | staIndy | staZpx | staAbsy | staAbsx => exact opSta_access
  | stxZp | stxAbs | stxZpy => exact opStx_access
  | styZp | styAbs | styZpx => exact opSty_access
  | adcIndx | adcZp | adcImm | adcAbs | adcIndy | adcZpx | adcAbsy | adcAbsx => exact opAdc_access
  | sbcIndx | sbcZp | sbcImm | sbcAbs | sbcIndy | sbcZpx | sbcAbsy | sbcAbsx => exact opSbc_access
  | andIndx | andZp | andImm | andAbs | andIndy | andZpx | andAbsy | andAbsx => exact opAnd_access
  | oraIndx | oraZp | oraImm | oraAbs | oraIndy | oraZpx | oraAbsy | oraAbsx => exact opOra_access
  | eorIndx | eorZp | eorImm | eorAbs | eorIndy | eorZpx | eorAbsy | eorAbsx => exact opEor_access
  | cmpIndx | cmpZp | cmpImm | cmpAbs | cmpIndy | cmpZpx | cmpAbsy | cmpAbsx => exact opCmp_access
  | cpxImm | cpxZp | cpxAbs => exact opCpx_access
  | cpyImm | cpyZp | cpyAbs => exact opCpy_access
  | bitZp | bitAbs => exact opBit_access
  | aslZp | aslAcc | aslAbs | aslZpx | aslAbsx => exact opAsl_access
  | lsrZp | lsrAcc | lsrAbs | lsrZpx | lsrAbsx => exact opLsr_access
  | rolZp | rolAcc | rolAbs | rolZpx | rolAbsx => exact opRol_access
  | rorZp | rorAcc | rorAbs | rorZpx | rorAbsx => exact opRor_access
  | incZp | incAbs | incZpx | incAbsx => exact opInc_access
  | decZp | decAbs | decZpx | decAbsx => exact opDec_access
  | laxIndx | laxZp | laxAbs | laxIndy | laxZpy | laxAbsy => exact opLax_access
  | saxIndx | saxZp | saxAbs | saxZpy => exact opSax_access
  | usbcImm => exact opUsbc_access
  | dcpIndx | dcpZp | dcpAbs | dcpIndy | dcpZpx | dcpAbsy | dcpAbsx => exact opDcp_access
  | isbIndx | isbZp | isbAbs | isbIndy | isbZpx | isbAbsy | isbAbsx => exact opIsb_access
  | sloIndx | sloZp | sloAbs | sloIndy | sloZpx | sloAbsy | sloAbsx => exact opSlo_access
  | rlaIndx | rlaZp | rlaAbs | rlaIndy | rlaZpx | rlaAbsy | rlaAbsx => exact opRla_access
  | sreIndx | sreZp | sreAbs | sreIndy | sreZpx | sreAbsy | sreAbsx => exact opSre_access
  | rraIndx | rraZp | rraAbs | rraIndy | rraZpx | rraAbsy | rraAbsx => exact opRra_access
  | bcs | beq | bmi | bvs => exact branchOp_access _
  | bcc => exact branchOp_access fun c => !c.c
  | bne => exact branchOp_access fun c => !c.z
  | bpl => exact branchOp_access fun c => !c.n
  | bvc => exact branchOp_access fun c => !c.v
  | pha => exact opPha_access
  | php => exact opPhp_access
  | jsrAbs => exact opJsr_access
  | brk => exact opBrk_access
  | pla => exact .quiet opPla_eq fun _ _ => rfl
  | plp => exact .quiet opPlp_eq fun _ _ => rfl
  | rts => exact .quiet opRts_eq fun _ _ => rfl
  | rti => exact .quiet opRti_eq fun _ _ => rfl
  | tax | tay | txa | tya | tsx | txs | inx | iny | dex | dey | jmpAbs | jmpInd | clc | sec | cli | sei | cld | sed
  | clv | nop | unopZp04 | unopAbs0C | unopZpx14 | unopImp1A | unopAbsx1C | unopZpx34 | unopImp3A | unopAbsx3C
  | unopZp44 | unopZpx54 | unopImp5A | unopAbsx5C | unopZp64 | unopZpx74 | unopImp7A | unopAbsx7C | unopImm80
  | unopImm82 | unopImm89 | unopImmC2 | unopZpxD4 | unopImpDA | unopAbsxDC | unopImmE2 | unopZpxF4 | unopImpFA
  | unopAbsxFC => exact .quiet (fun _ _ => rfl) fun _ _ => rfl

/-- The target of an instruction that reads or stores its operand: in memory it is the operand's address, and an
immediate byte is never stored to. -/
theorem target_of_operand {i : Instr} {s t : State} {r : Resolved} (h : effective s i.operand = .ok r t) :
    (∀ ea, r.target = .mem ea → (loading i || storing i) = true → operandAddr s i.operand = some ea) ∧
      (∀ ea v, r.target = .imm ea v → storing i = false) := by
  have hsuits := accessSuits_operand i
  cases ho : operandAddr s i.operand with
  | some ea' =>
    rw [effective_eq ho] at h
    cases h
    exact ⟨fun ea e _ => congrArg some (Target.mem.inj e), fun ea v e => nomatch e⟩
  | none =>
    generalize i.operand = o at *
    cases o with
    | imp | acc =>
      cases h
      exact ⟨nofun, nofun⟩
    | imm v =>
      cases h
      exact ⟨nofun, fun _ _ _ => Bool.eq_false_of_not_eq_true' hsuits⟩
    | rel d =>
      cases h
      have hnone := Bool.eq_false_of_not_eq_true' hsuits
      exact ⟨fun _ _ haccess => absurd haccess (Bool.eq_false_iff.1 hnone), nofun⟩
    | ind a =>
      obtain ⟨w, u, -, h⟩ := Res.bind_eq_ok.1 h
      cases h
      have hnone := Bool.eq_false_of_not_eq_true' hsuits
      exact ⟨fun _ _ haccess => absurd haccess (Bool.eq_false_iff.1 hnone), nofun⟩
    | zp _ | zpx _ | zpy _ | abs _ | absx _ | absy _ | indx _ | indy _ => cases ho

end Sys2Proof.Machine
end

section
/-! PROOFS. Which accesses answer (rules R78, R80, R92), and that an instruction answers where its accesses do. -/

namespace Sys2Proof.Machine

/-- A read outside the expansion area answers (rule R78). -/
theorem memRead_readable {a : Word} (ha : readable a) (s : State) : ∃ b t, memRead s a = .ok b t := by
  unfold memRead
  split_ifs with h1 h2 h3
  · exact ⟨_, _, rfl⟩
  · exact ⟨_, _, rfl⟩
  · rcases ha with h | h
    · omega
    · exact absurd h h2
  · exact ⟨_, _, rfl⟩
  · exact ⟨_, _, rfl⟩
  · exact ⟨_, _, rfl⟩
  · exact ⟨_, _, rfl⟩

/-- A write to a picture register other than the data port answers (rules R354-R363). -/
theorem ppuRegWrite_answers {r : Nat} (hr : r < 7) (s : State) (v : Byte) : ∃ t, ppuRegWrite s r v = .ok () t := by
  unfold ppuRegWrite
  split_ifs
  · exact ⟨_, rfl⟩
  · exact ⟨_, rfl⟩
  · exact ⟨_, rfl⟩
  · exact ⟨_, rfl⟩
  · exact ⟨_, rfl⟩
  · exact ⟨_, rfl⟩
  · exact ⟨_, rfl⟩
  · omega

/-- A write to a writable address answers (rules R73-R80). -/
theorem memWrite_writable {a : Word} (ha : writable a) (s : State) (v : Byte) : ∃ t, memWrite s a v = .ok () t := by
  rcases ha with (h | ⟨h, h'⟩) | ⟨h, h', hdma⟩ | ⟨h, h', hport⟩
  · exact ⟨_, memWrite_wram h⟩
  · exact ⟨_, memWrite_sram h h'⟩
  · by_cases hcontroller : a = 0x4016
    · exact ⟨_, hcontroller ▸ memWrite_controller s v⟩
    · exact ⟨_, memWrite_io h h' hdma hcontroller⟩
  · rw [memWrite_picture h h']
    exact ppuRegWrite_answers (by omega) s v

/-- The two forms of the address after a pointer in its page (rule R160). -/
theorem samePageNext_eq (ptr : Word) : samePageNext ptr = nextInPage ptr := by
  have hlow : loByte ptr + 1 = loByte (ptr + 1) := by
    apply BitVec.eq_of_toNat_eq
    rw [BitVec.toNat_add, loByte_toNat, loByte_toNat, BitVec.toNat_add, show (1 : Byte).toNat = 1 from rfl,
      show (1 : Word).toNat = 1 from rfl]
    omega
  rw [samePageNext, nextInPage, hlow]
  generalize ptr + 1 = next
  apply BitVec.eq_of_getLsbD_eq
  intro k hk
  rw [wordOf, BitVec.getLsbD_append, hiByte, loByte, BitVec.getLsbD_extractLsb', BitVec.getLsbD_extractLsb']
  interval_cases k <;> simp

/-- A pointer whose two bytes are readable is read (rule R160). -/
theorem readPointer_readable {a : Word} (ha : readable a) (ha' : readable (samePageNext a)) (s : State) :
    ∃ w t, readPointer s a = .ok w t := by
  obtain ⟨lo, u, hlo⟩ := memRead_readable ha s
  obtain ⟨hi, t, hhi⟩ := memRead_readable (samePageNext_eq a ▸ ha') u
  exact ⟨wordOf hi lo, t, by rw [readPointer, hlo, Res.bind_ok, hhi, Res.bind_ok]⟩

/-- The mode function answers, unless it reads a jump's pointer from the expansion area (rules R151-R163). -/
theorem effective_answers {o : Operand} {s : State} (hind : ∀ a, o = .ind a → readable a ∧ readable (samePageNext a)) :
    ∃ r t, effective s o = .ok r t := by
  cases ho : operandAddr s o with
  | some ea => exact ⟨_, _, effective_eq ho⟩
  | none =>
    cases o with
    | imp | acc | imm _ | rel _ => exact ⟨_, _, rfl⟩
    | ind a =>
      obtain ⟨ha, ha'⟩ := hind a rfl
      obtain ⟨w, t, hw⟩ := readPointer_readable ha ha' s
      exact ⟨{ target := .mem w, crossed := false }, t, by rw [effective, hw, Res.bind_ok]⟩
    | zp _ | zpx _ | zpy _ | abs _ | absx _ | absy _ | indx _ | indy _ => cases ho

/-- A target at which the accesses of this footprint answer. -/
def Footprint.Reaches (f : Footprint) : Target → Prop
  | .mem ea => (f.loads = true → readable ea) ∧ (f.stores = true → writable ea)
  | .imm _ _ => f.stores = false
  | .acc | .none => True

section
variable {f : Footprint} {t : Target}

theorem readTarget_answers (ht : f.Reaches t) (hl : f.loads = true) (s : State) :
    ∃ v s', readTarget s t = .ok v s' := by
  cases t with
  | mem ea => exact memRead_readable (ht.1 hl) s
  | acc | imm _ _ | none => exact ⟨_, _, rfl⟩

theorem writeTarget_answers (ht : f.Reaches t) (hs : f.stores = true) (s : State) (v : Byte) :
    ∃ s', writeTarget s t v = .ok () s' := by
  cases t with
  | mem ea => exact memWrite_writable (ht.2 hs) s v
  | imm ea w => exact absurd (hs.symm.trans ht) (by decide)
  | acc | none => exact ⟨_, rfl⟩

/-- An operation answers where its accesses do. -/
theorem Access.answers {p : Nat} {op : Operation} (h : Access f p op) (ht : f.Reaches t) (s : State) :
    ∃ n s', op t s = .ok n s' := by
  cases h with
  | @read k hl hk =>
    obtain ⟨v, u, hu⟩ := readTarget_answers ht hl s
    exact ⟨0, k v u, Res.bind_eq_ok.2 ⟨v, u, hu, rfl⟩⟩
  | @store value hs =>
    obtain ⟨u, hu⟩ := writeTarget_answers ht hs s (value s)
    exact ⟨0, u, Res.bind_eq_ok.2 ⟨(), u, hu, rfl⟩⟩
  | @shift g after hl hs hk =>
    obtain ⟨m, u, hu⟩ := readTarget_answers ht hl s
    obtain ⟨w, hw⟩ := writeTarget_answers ht hs (u.setC (g u.cpu.c m).1) (g u.cpu.c m).2
    exact ⟨0, after w (g u.cpu.c m).2, by rw [shiftOp, hu, Res.bind_ok, hw, Res.bind_ok]⟩
  | @step k after hl hs hk =>
    obtain ⟨m, u, hu⟩ := readTarget_answers ht hl s
    obtain ⟨w, hw⟩ := writeTarget_answers ht hs u (m + k)
    exact ⟨0, after w (m + k), by rw [stepOp, hu, Res.bind_ok, hw, Res.bind_ok]⟩
  | push h =>
    obtain ⟨vs, n, s', -, hop, -⟩ := h t s
    exact ⟨n, s', hop⟩

end

theorem storeAddr_eq_some {i : Instr} {s : State} {ea : Word} (hs : storing i = true)
    (h : operandAddr s i.operand = some ea) : storeAddr s i = some ea := by
  rw [storeAddr, if_pos hs, h]

theorem footprint_loads (i : Instr) : (footprint i.mnemonic).loads = loading i := rfl

theorem footprint_stores (i : Instr) : (footprint i.mnemonic).stores = storing i := rfl

/-- The accesses of an instruction answer at its target when they do at its operand's address. -/
theorem reaches_target {i : Instr} {s t : State} {r : Resolved} (h : effective s i.operand = .ok r t)
    (hload : ∀ ea, loading i = true → operandAddr s i.operand = some ea → readable ea)
    (hstore : ∀ ea, storeAddr s i = some ea → writable ea) : (footprint i.mnemonic).Reaches r.target := by
  obtain ⟨hmem, himm⟩ := target_of_operand h
  cases hr : r.target with
  | acc | none => trivial
  | imm ea v => exact himm ea v hr
  | mem ea =>
    refine ⟨fun hl => ?_, fun hs => ?_⟩
    · rw [footprint_loads] at hl
      exact hload ea hl (hmem ea hr (by rw [hl, Bool.true_or]))
    · rw [footprint_stores] at hs
      exact hstore ea (storeAddr_eq_some hs (hmem ea hr (by rw [hs, Bool.or_true])))

/-- An instruction answers when its mode function and its operation do (rule R150). -/
theorem exec_of_op {i : Instr} {s s1 s2 : State} {r : Resolved} {n : Nat} (hr : resolve s i.operand = .ok r s1)
    (hop : (rowOf i).op r.target s1 = .ok n s2) : ∃ k, exec i s = .next (s2.addCycles k) := by
  rw [exec_eq_run, runInstr, cpuStep, hr, Res.bind_ok, hop, Res.bind_ok]
  exact ⟨_, rfl⟩

/-- Settles O9: the mode function answers, and the operation answers at the target it found. -/
theorem everyInstructionCompletes : Obligations.EveryInstructionCompletes := by
  intro i s hload hstore hind
  obtain ⟨r, u, hr⟩ := effective_answers hind
  obtain ⟨n, w, hop⟩ := (rowOf_access i).answers (reaches_target hr hload hstore)
    (u.setPc (u.cpu.pc + BitVec.ofNat 16 i.operand.length))
  have hresolve : resolve s i.operand = .ok r (u.setPc (u.cpu.pc + BitVec.ofNat 16 i.operand.length)) := by
    rw [resolve, hr, Res.bind_ok]
  obtain ⟨k, hexec⟩ := exec_of_op hresolve hop
  exact ⟨_, hexec⟩

end Sys2Proof.Machine
end

section
/-! PROOFS. Plain memory over an instruction (rules R90, R96, R166): each part of it leaves plain memory alone but for
the byte stored to and the bytes pushed. -/

namespace Sys2Proof.Machine

/-- Two states with the same RAM and cartridge. -/
structure SameMemory (s t : State) : Prop where
  wram : t.wram = s.wram
  sram : t.sram = s.sram
  cart : t.cart = s.cart

theorem SameMemory.trans {s t u : State} (h : SameMemory s t) (h' : SameMemory t u) : SameMemory s u :=
  ⟨h'.wram.trans h.wram, h'.sram.trans h.sram, h'.cart.trans h.cart⟩

theorem SameMemory.peek {s t : State} (h : SameMemory s t) (a : Word) : peek t a = peek s a := by
  unfold Machine.peek
  rw [h.wram, h.sram, h.cart]

theorem SameOutsideCpu.sameMemory {s t : State} (h : SameOutsideCpu s t) : SameMemory s t := by
  unfold SameOutsideCpu at h
  rw [h]
  exact ⟨rfl, rfl, rfl⟩

theorem controllerRead_memory (s : State) : SameMemory s (controllerRead s).2 := by
  unfold controllerRead
  split <;> exact ⟨rfl, rfl, rfl⟩

theorem ppuRegRead_memory (s : State) (r : Nat) : SameMemory s (ppuRegRead s r).2 := by
  unfold ppuRegRead
  split_ifs
  · exact ⟨rfl, rfl, rfl⟩
  · exact ⟨rfl, rfl, rfl⟩
  · unfold readData
    dsimp only
    split_ifs <;> exact ⟨rfl, rfl, rfl⟩
  · exact ⟨rfl, rfl, rfl⟩

/-- No bus read changes plain memory (rule R71). -/
theorem memRead_memory {s t : State} {a : Word} {b : Byte} (h : memRead s a = .ok b t) : SameMemory s t := by
  unfold memRead at h
  split_ifs at h
  · cases h; exact ⟨rfl, rfl, rfl⟩
  · cases h; exact ⟨rfl, rfl, rfl⟩
  · cases h; exact controllerRead_memory s
  · cases h; exact ⟨rfl, rfl, rfl⟩
  · cases h; exact ppuRegRead_memory s _
  · cases h; exact ⟨rfl, rfl, rfl⟩

theorem readPointer_memory {s t : State} {ptr w : Word} (h : readPointer s ptr = .ok w t) : SameMemory s t := by
  obtain ⟨lo, u, hu, h⟩ := Res.bind_eq_ok.1 h
  obtain ⟨hi, v, hv, h⟩ := Res.bind_eq_ok.1 h
  cases h
  exact (memRead_memory hu).trans (memRead_memory hv)

/-- Nor does the mode function (rule R150). -/
theorem effective_memory {s t : State} {o : Operand} {r : Resolved} (h : effective s o = .ok r t) :
    SameMemory s t := by
  cases o with
  | ind _ | indx _ | indy _ =>
    obtain ⟨w, u, hu, h⟩ := Res.bind_eq_ok.1 h
    cases h
    exact readPointer_memory hu
  | imp | acc | imm _ | zp _ | zpx _ | zpy _ | abs _ | absx _ | absy _ | rel _ =>
    cases h
    exact ⟨rfl, rfl, rfl⟩

/-- No picture register's write changes plain memory (rules R354-R364). -/
theorem ppuRegWrite_memory {s t : State} {r : Nat} {v : Byte} {x : Unit} (h : ppuRegWrite s r v = .ok x t) :
    SameMemory s t := by
  unfold ppuRegWrite at h
  split_ifs at h
  · cases h; exact ⟨rfl, rfl, rfl⟩
  · cases h; exact ⟨rfl, rfl, rfl⟩
  · cases h; exact ⟨rfl, rfl, rfl⟩
  · cases h; exact ⟨rfl, rfl, rfl⟩
  · cases h; exact ⟨rfl, rfl, rfl⟩
  · cases h; unfold writeScroll; split_ifs <;> exact ⟨rfl, rfl, rfl⟩
  · cases h; unfold writeAddr; split_ifs <;> exact ⟨rfl, rfl, rfl⟩
  · obtain ⟨_, u, hu, h⟩ := Res.bind_eq_ok.1 h
    cases h
    unfold ppuWrite at hu
    dsimp only at hu
    split_ifs at hu <;> (cases hu; exact ⟨rfl, rfl, rfl⟩)

/-- Nor does the copy of OAM DMA (rule R77). -/
theorem oamDmaLoop_memory {n : Nat} {src : Word} {dst : Byte} {s t : State} {x : Unit}
    (h : oamDmaLoop n src dst s = .ok x t) : SameMemory s t := by
  induction n generalizing src dst s with
  | zero => cases h; exact ⟨rfl, rfl, rfl⟩
  | succ n ih =>
    obtain ⟨b, u, hu, h⟩ := Res.bind_eq_ok.1 h
    have hwritten : SameMemory u (u.setPpu { u.ppu with oam := u.ppu.oam.write dst.toNat b }) := ⟨rfl, rfl, rfl⟩
    exact ((memRead_memory hu).trans hwritten).trans (ih h)

/-- A write outside RAM leaves plain memory alone (rules R74-R80). -/
theorem memWrite_memory {s t : State} {a : Word} {v : Byte} {x : Unit} (ha : ¬ ramAddr a)
    (h : memWrite s a v = .ok x t) : SameMemory s t := by
  unfold memWrite at h
  split_ifs at h with h1 h2 h3 h4 h5 h6 h7
  · exact absurd (.inr ⟨h2, by omega⟩) ha
  · obtain ⟨_, u, hu, h⟩ := Res.bind_eq_ok.1 h
    cases h
    exact (oamDmaLoop_memory hu).trans ⟨rfl, rfl, rfl⟩
  · cases h; exact ⟨rfl, rfl, rfl⟩
  · cases h; exact ⟨rfl, rfl, rfl⟩
  · exact ppuRegWrite_memory h
  · exact absurd (.inl (by omega)) ha

/-- A write changes plain memory only where its address reaches (rules R73, R79). -/
theorem peek_memWrite {s t : State} {ea a : Word} {v : Byte} {x : Unit} (hs : MemoriesWf s)
    (h : memWrite s ea v = .ok x t) (ha : ¬ sameRamByte ea a) : peek t a = peek s a := by
  by_cases hea : ramAddr ea
  · obtain ⟨u, hwrite, -, -, hother⟩ := memWrite_ram (v := v) hs hea
    rw [hwrite] at h
    cases h
    exact hother a ha
  · exact (memWrite_memory hea h).peek a

/-- A push changes plain memory only at the stack byte (rule R84). -/
theorem peek_push {s : State} {a : Word} {v : Byte} (hs : s.wram.wf 2048 = true)
    (ha : ¬ sameRamByte (stackAddr s.cpu.sp) a) :
    peek (s.setWram (s.wram.write (0x100 + s.cpu.sp.toNat) v)) a = peek s a := by
  have hb := s.cpu.sp.isLt
  have haddr := stackAddr_toNat s.cpu.sp
  have hoffset : (stackAddr s.cpu.sp).toNat % 0x800 = 0x100 + s.cpu.sp.toNat := by omega
  rw [← hoffset, peek_write_wram hs, if_neg]
  exact fun e => ha (.inl ⟨by omega, e⟩)

/-- Pushing bytes changes plain memory only at the stack bytes from SP down (rule R84). -/
theorem peek_pushAll {a : Word} (vs : List Byte) {s : State} (hs : s.wram.wf 2048 = true)
    (ha : ∀ k, k < vs.length → ¬ sameRamByte (stackAddr (s.cpu.sp - BitVec.ofNat 8 k)) a) :
    peek (pushAll s vs) a = peek s a := by
  induction vs generalizing s with
  | nil => rfl
  | cons v vs ih =>
    have hb := s.cpu.sp.isLt
    have hfirst : ¬ sameRamByte (stackAddr s.cpu.sp) a := by
      have h := ha 0 (Nat.succ_pos _)
      rwa [BitVec.sub_zero] at h
    have hrest : ∀ k, k < vs.length → ¬ sameRamByte (stackAddr (s.cpu.sp - 1 - BitVec.ofNat 8 k)) a := by
      intro k hk
      have hsp : s.cpu.sp - 1 - BitVec.ofNat 8 k = s.cpu.sp - BitVec.ofNat 8 (k + 1) := by
        rw [BitVec.ofNat_add, BitVec.sub_sub, BitVec.add_comm]
        rfl
      exact hsp ▸ ha (k + 1) (Nat.succ_lt_succ hk)
    have hwf : (s.wram.write (0x100 + s.cpu.sp.toNat) v).wf 2048 = true := Memory.wf_write (by omega) hs
    rw [pushAll, ih]
    · exact peek_push hs hfirst
    · exact hwf
    · exact hrest

/-- The targets of an operation that does not store to the byte at `a`. -/
def Footprint.Misses (f : Footprint) (a : Word) : Target → Prop
  | .mem ea => f.stores = true → ¬ sameRamByte ea a
  | .imm _ _ => f.stores = false
  | .acc | .none => True

section
variable {f : Footprint} {t : Target} {s s' : State} {a : Word}

theorem readTarget_memory {v : Byte} (h : readTarget s t = .ok v s') : SameMemory s s' := by
  cases t with
  | mem ea => exact memRead_memory h
  | acc | imm _ _ | none => cases h; exact ⟨rfl, rfl, rfl⟩

theorem peek_writeTarget {v : Byte} {x : Unit} (hs : MemoriesWf s) (ht : f.Misses a t) (hst : f.stores = true)
    (h : writeTarget s t v = .ok x s') : peek s' a = peek s a := by
  cases t with
  | mem ea => exact peek_memWrite hs h (ht hst)
  | imm ea w => exact absurd (hst.symm.trans ht) (by decide)
  | acc | none => cases h; rfl

/-- An operation leaves a byte of plain memory alone that it neither stores to nor pushes. -/
theorem Access.peek {p n : Nat} {op : Operation} (h : Access f p op) (hs : MemoriesWf s) (ht : f.Misses a t)
    (hpush : ∀ k, k < p → ¬ sameRamByte (stackAddr (s.cpu.sp - BitVec.ofNat 8 k)) a) (hop : op t s = .ok n s') :
    peek s' a = peek s a := by
  cases h with
  | read hl hk =>
    obtain ⟨v, u, hu, hop⟩ := Res.bind_eq_ok.1 hop
    cases hop
    exact ((readTarget_memory hu).trans (hk v u).sameMemory).peek a
  | store hst =>
    obtain ⟨_, u, hu, hop⟩ := Res.bind_eq_ok.1 hop
    cases hop
    exact peek_writeTarget hs ht hst hu
  | @shift g after hl hst hk =>
    obtain ⟨m, u, hu, hop⟩ := Res.bind_eq_ok.1 hop
    obtain ⟨_, w, hw, hop⟩ := Res.bind_eq_ok.1 hop
    cases hop
    have hwf : MemoriesWf (u.setC (g u.cpu.c m).1) := (readTarget_moves s t m u hu).mem hs
    rw [(hk w _).sameMemory.peek, peek_writeTarget hwf ht hst hw]
    exact (readTarget_memory hu).peek a
  | step hl hst hk =>
    obtain ⟨m, u, hu, hop⟩ := Res.bind_eq_ok.1 hop
    obtain ⟨_, w, hw, hop⟩ := Res.bind_eq_ok.1 hop
    cases hop
    have hwf : MemoriesWf u := (readTarget_moves s t m u hu).mem hs
    rw [(hk w _).sameMemory.peek, peek_writeTarget hwf ht hst hw]
    exact (readTarget_memory hu).peek a
  | push h =>
    obtain ⟨vs, n', u, hlen, hu, hsame⟩ := h t s
    rw [hu] at hop
    cases hop
    obtain ⟨hwram, -⟩ := hs
    rw [hsame.sameMemory.peek, peek_pushAll vs hwram fun k hk => hpush k (Nat.lt_of_lt_of_le hk hlen)]

end

/-- An instruction's target is off a byte that its store address does not reach. -/
theorem misses_target {i : Instr} {s t : State} {r : Resolved} {a : Word} (h : effective s i.operand = .ok r t)
    (hstore : ∀ ea, storeAddr s i = some ea → ¬ sameRamByte ea a) : (footprint i.mnemonic).Misses a r.target := by
  obtain ⟨hmem, himm⟩ := target_of_operand h
  cases hr : r.target with
  | acc | none => trivial
  | imm ea v => exact himm ea v hr
  | mem ea =>
    intro hs
    rw [footprint_stores] at hs
    exact hstore ea (storeAddr_eq_some hs (hmem ea hr (by rw [hs, Bool.or_true])))

/-- Settles O42: the mode function leaves plain memory and SP alone, and the operation misses the byte. -/
theorem memoryFrame : Obligations.MemoryFrame := by
  intro i s t a hs h hstore hpush
  obtain ⟨r, s1, n, s2, k, hr, hop, rfl⟩ := exec_eq_next h
  have hcpu : s1.cpu = (past s i.operand).cpu := resolve_cpu hr
  have hwf : MemoriesWf s1 := (resolve_moves s i.operand r s1 hr).mem hs
  obtain ⟨r', u, hu, he⟩ := Res.bind_eq_ok.1 hr
  obtain ⟨rfl, rfl⟩ := Res.ok.inj he
  have hpush' : ∀ k, k < pushed i → ¬ sameRamByte
      (stackAddr ((u.setPc (u.cpu.pc + BitVec.ofNat 16 i.operand.length)).cpu.sp - BitVec.ofNat 8 k)) a := by
    rw [hcpu]
    exact hpush
  calc peek (s2.addCycles k) a
      = peek s2 a := rfl
    _ = peek (u.setPc (u.cpu.pc + BitVec.ofNat 16 i.operand.length)) a :=
        (rowOf_access i).peek hwf (misses_target hu hstore) hpush' hop
    _ = peek s a := (effective_memory hu).peek a

end Sys2Proof.Machine
end

section
/-! PROOFS. The copy loop of OAM DMA as a sequence of reads (rule R77). -/

namespace Sys2Proof.Machine

/-- Sprite memory after the first `n` bytes have been copied to it, from `dst` on. -/
def oamAfter (oam : Memory) (dst : Byte) (byte : Nat → Byte) : Nat → Memory
  | 0 => oam
  | n + 1 => (oamAfter oam dst byte n).write (dst + BitVec.ofNat 8 n).toNat (byte n)

theorem oamAfter_wf {oam : Memory} (h : oam.wf 256 = true) (dst : Byte) (byte : Nat → Byte) (n : Nat) :
    (oamAfter oam dst byte n).wf 256 = true := by
  induction n with
  | zero => exact h
  | succ n ih => exact Memory.wf_write (dst + BitVec.ofNat 8 n).isLt ih

/-- The copied bytes stand from `dst` on, modulo 256, and the others as before. -/
theorem oamAfter_read {oam : Memory} (h : oam.wf 256 = true) (dst : Byte) (byte : Nat → Byte) {n : Nat} (hn : n ≤ 256)
    (k : Byte) : (oamAfter oam dst byte n).read (dst + k).toNat =
      if k.toNat < n then byte k.toNat else oam.read (dst + k).toNat := by
  induction n with
  | zero => rfl
  | succ n ih =>
    rw [oamAfter, Memory.read_write (oamAfter_wf h dst byte n), ih (by omega)]
    by_cases hk : k.toNat = n
    · have hdst : (dst + BitVec.ofNat 8 n).toNat = (dst + k).toNat := by
        rw [← hk, BitVec.ofNat_toNat, BitVec.setWidth_eq]
      rw [if_pos hdst, if_pos (by omega), hk]
    · have hdst : (dst + BitVec.ofNat 8 n).toNat ≠ (dst + k).toNat := by
        rw [BitVec.toNat_add, BitVec.toNat_add, BitVec.toNat_ofNat]
        have hk' := k.isLt
        have hd := dst.isLt
        omega
      rw [if_neg hdst]
      by_cases hlt : k.toNat < n
      · rw [if_pos hlt, if_pos (by omega)]
      · rw [if_neg hlt, if_neg (by omega)]

/-- The state with another sprite memory. -/
def withOam (s : State) (oam : Memory) : State := s.setPpu { s.ppu with oam := oam }

/-- A copy whose first `n` reads answer: `env k` is the state before read `k`, sprite memory aside. -/
theorem oamDmaLoop_copies {src : Word} {dst : Byte} {oam : Memory} {env : Nat → State} {byte : Nat → Byte} {n : Nat}
    (hread : ∀ k, k < n → memRead (withOam (env k) (oamAfter oam dst byte k)) (src + BitVec.ofNat 16 k) =
      .ok (byte k) (withOam (env (k + 1)) (oamAfter oam dst byte k))) (m : Nat) :
    oamDmaLoop (n + m) src dst (withOam (env 0) oam) =
      oamDmaLoop m (src + BitVec.ofNat 16 n) (dst + BitVec.ofNat 8 n) (withOam (env n) (oamAfter oam dst byte n)) := by
  induction n generalizing m with
  | zero => simp [oamAfter]
  | succ n ih =>
    rw [Nat.add_assoc, Nat.add_comm 1 m, ih (fun k hk => hread k (Nat.lt_succ_of_lt hk)) (m + 1), oamDmaLoop,
      hread n (Nat.lt_succ_self n), Res.bind_ok, BitVec.ofNat_add, BitVec.ofNat_add, ← BitVec.add_assoc,
      ← BitVec.add_assoc]
    rfl

/-- Byte `k` of a page (rule R77). -/
theorem page_add (page : Byte) {k : Nat} (hk : k < 256) :
    (page ++ 0x00#8 : Word) + BitVec.ofNat 16 k = page ++ BitVec.ofNat 8 k := by
  apply BitVec.eq_of_toNat_eq
  have hp := page.isLt
  have h0 : (page ++ 0x00#8 : Word).toNat = page.toNat * 256 + 0 := wordOf_toNat page 0x00
  have h1 : (page ++ BitVec.ofNat 8 k : Word).toNat = page.toNat * 256 + (BitVec.ofNat 8 k).toNat :=
    wordOf_toNat page (BitVec.ofNat 8 k)
  rw [BitVec.toNat_add, h0, h1, BitVec.toNat_ofNat, BitVec.toNat_ofNat]
  omega

theorem page_toNat (page : Byte) {k : Nat} (hk : k < 256) :
    (page ++ BitVec.ofNat 8 k : Word).toNat = page.toNat * 256 + k := by
  have h : (page ++ BitVec.ofNat 8 k : Word).toNat = page.toNat * 256 + (BitVec.ofNat 8 k).toNat :=
    wordOf_toNat page (BitVec.ofNat 8 k)
  rw [h, BitVec.toNat_ofNat, Nat.mod_eq_of_lt hk]

/-- A page all of whose reads answer is copied whole (rule R77): `env k` is the state before read `k`. -/
theorem memWrite_dma_copies {s : State} {page : Byte} {env : Nat → State} {byte : Nat → Byte}
    (hs : s.ppu.oam.wf 256 = true) (h0 : env 0 = s)
    (hread : ∀ k, k < 256 → memRead (withOam (env k) (oamAfter s.ppu.oam s.ppu.oamAddr byte k))
      (page ++ BitVec.ofNat 8 k) = .ok (byte k) (withOam (env (k + 1)) (oamAfter s.ppu.oam s.ppu.oamAddr byte k))) :
    ∃ oam, memWrite s 0x4014 page = .ok () ((withOam (env 256) oam).addCycles (env 256).params.oamDmaStall) ∧
      ∀ k : Byte, oam.read (s.ppu.oamAddr + k).toNat = byte k.toNat := by
  have hcopy := oamDmaLoop_copies (src := page ++ 0x00#8) (n := 256)
    (fun k hk => by rw [page_add page hk]; exact hread k hk) 0
  have hstart : withOam (env 0) s.ppu.oam = s := by rw [h0]; rfl
  rw [hstart] at hcopy
  refine ⟨oamAfter s.ppu.oam s.ppu.oamAddr byte 256, ?_, fun k => ?_⟩
  · rw [memWrite_dma, oamDma, hcopy]
    rfl
  · rw [oamAfter_read hs _ _ (Nat.le_refl 256), if_pos k.isLt]

end Sys2Proof.Machine
end

section
/-! PROOFS. OAM DMA of a page of picture registers (rules R74, R77): its status reads and data port reads have side
effects. -/

namespace Sys2Proof.Machine

/-- The status byte as a number (rule R357). -/
theorem statusByte_eq (s : State) : statusByte s = statusAs s.ppu.vblank s := by
  have h : ∀ (a b c : Bool) (w : Byte), BitVec.ofBool a ++ BitVec.ofBool b ++ BitVec.ofBool c ++ w.setWidth 5 =
      BitVec.ofNat 8 (128 * a.toNat + 64 * b.toNat + 32 * c.toNat + w.toNat % 32) := by
    decide
  exact h s.ppu.vblank s.ppu.sprite0Hit s.ppu.spriteOverflow s.params.ppuOpenBus

/-- The read buffer after `j` reads of the data port in a row (rule R365). -/
def portBuffer (s : State) : Nat → Byte
  | 0 => s.ppu.readBuffer
  | j + 1 => portFill s j

/-- A read of the data port returns the buffer below the palette, and the byte itself in it (rule R365). -/
theorem portByte_eq (s : State) (j : Nat) :
    portByte s j = if portAddr s.ppu j < 0x3F00 then portBuffer s j else ppuRead s (portAddr s.ppu j) := by
  cases j <;> rfl

/-- The state once the first `k` bytes of a page of picture registers have been read: the third byte is the first
status read, and every eighth a read of the data port (rules R357, R365). -/
def registersRead (s : State) (k : Nat) : State :=
  s.setPpu { s.ppu with
    vblank := decide (k ≤ 2) && s.ppu.vblank, w := decide (k ≤ 2) && s.ppu.w
    v := s.ppu.v + BitVec.ofNat 15 (k / 8) * portStep s.ppu, readBuffer := portBuffer s (k / 8) }

theorem registersRead_zero (s : State) : registersRead s 0 = s := by
  simp [registersRead, portBuffer, State.setPpu]

/-- The other registers' reads have no side effect (rules R361, R367). -/
theorem registersRead_succ (s : State) {k : Nat} (h2 : k % 8 ≠ 2) (h7 : k % 8 ≠ 7) :
    registersRead s (k + 1) = registersRead s k := by
  have hdiv : (k + 1) / 8 = k / 8 := by omega
  have hle : decide (k + 1 ≤ 2) = decide (k ≤ 2) := decide_eq_decide.2 (by omega)
  rw [registersRead, registersRead, hdiv, hle]

/-- The status read (rule R357). -/
theorem readStatus_registersRead (s : State) (oam : Memory) {k : Nat} (h2 : k % 8 = 2) :
    readStatus (withOam (registersRead s k) oam) =
      (pageOfRegisters s k, withOam (registersRead s (k + 1)) oam) := by
  have hdiv : (k + 1) / 8 = k / 8 := by omega
  have hle : decide (k + 1 ≤ 2) = false := decide_eq_false (by omega)
  have heq : decide (k ≤ 2) = decide (k = 2) := decide_eq_decide.2 (by omega)
  rw [readStatus, statusByte_eq, registersRead, registersRead, pageOfRegisters, if_pos h2, hdiv, hle, heq,
    Bool.and_comm s.ppu.vblank]
  rfl

/-- The data port below the palette (rule R365). -/
theorem readData_below {s : State} (h : s.ppu.v.toNat % 0x4000 < 0x3F00) :
    readData s = (s.ppu.readBuffer,
      s.setPpu { s.ppu with readBuffer := ppuRead s (s.ppu.v.toNat % 0x4000), v := dataPortNext s.ppu }) := by
  unfold readData
  dsimp only
  rw [if_pos h]

/-- The data port in the palette (rule R365). -/
theorem readData_palette {s : State} (h : ¬ s.ppu.v.toNat % 0x4000 < 0x3F00) :
    readData s = (ppuRead s (s.ppu.v.toNat % 0x4000),
      s.setPpu { s.ppu with
        readBuffer := ppuRead s (s.ppu.v.toNat % 0x4000 - 0x1000), v := dataPortNext s.ppu }) := by
  unfold readData
  dsimp only
  rw [if_neg h]

/-- The picture side's memories do not change meanwhile (rule R91). -/
theorem ppuRead_registersRead (s : State) (oam : Memory) (k a : Nat) :
    ppuRead (withOam (registersRead s k) oam) a = ppuRead s a := rfl

/-- A read of the data port moves `v` on and fills the read buffer (rules R365, R366). -/
theorem registersRead_succ_port (s : State) {k : Nat} (h7 : k % 8 = 7) :
    registersRead s (k + 1) = (registersRead s k).setPpu { (registersRead s k).ppu with
      readBuffer := portFill s (k / 8), v := dataPortNext (registersRead s k).ppu } := by
  have hdiv : (k + 1) / 8 = k / 8 + 1 := by omega
  have hle : decide (k + 1 ≤ 2) = decide (k ≤ 2) := decide_eq_decide.2 (by omega)
  have hv : s.ppu.v + BitVec.ofNat 15 (k / 8 + 1) * portStep s.ppu =
      s.ppu.v + BitVec.ofNat 15 (k / 8) * portStep s.ppu + portStep s.ppu := by
    rw [BitVec.ofNat_add, BitVec.add_mul, BitVec.one_mul, BitVec.add_assoc]
  rw [registersRead, hdiv, hle, hv]
  rfl

/-- The data port's read in a page of registers (rules R365, R366). -/
theorem readData_registersRead (s : State) (oam : Memory) {k : Nat} (h7 : k % 8 = 7) :
    readData (withOam (registersRead s k) oam) =
      (pageOfRegisters s k, withOam (registersRead s (k + 1)) oam) := by
  have hbyte : pageOfRegisters s k = portByte s (k / 8) := by rw [pageOfRegisters, if_neg (by omega), if_pos h7]
  have haddr : (withOam (registersRead s k) oam).ppu.v.toNat % 0x4000 = portAddr s.ppu (k / 8) := rfl
  rw [hbyte, portByte_eq, registersRead_succ_port s h7, portFill]
  by_cases ha : portAddr s.ppu (k / 8) < 0x3F00
  · rw [readData_below (haddr ▸ ha), haddr, ppuRead_registersRead, if_pos ha, if_pos ha]
    rfl
  · rw [readData_palette (haddr ▸ ha), haddr, ppuRead_registersRead, ppuRead_registersRead, if_neg ha, if_neg ha]
    generalize ppuRead s (portAddr s.ppu (k / 8) - 0x1000) = fill
    rfl

/-- Every read of a page of registers (rules R77, R357-R367), the sprite memory port's among them: it finds the first
byte the DMA itself has written. -/
theorem ppuRegRead_registersRead {s : State} (hs : s.ppu.oam.wf 256 = true) {k : Nat} (hk : k < 256) :
    ppuRegRead (withOam (registersRead s k) (oamAfter s.ppu.oam s.ppu.oamAddr (pageOfRegisters s) k)) (k % 8) =
      (pageOfRegisters s k,
        withOam (registersRead s (k + 1)) (oamAfter s.ppu.oam s.ppu.oamAddr (pageOfRegisters s) k)) := by
  unfold ppuRegRead
  split_ifs with h2 h4 h7
  · exact readStatus_registersRead s _ h2
  · have hfirst := oamAfter_read hs s.ppu.oamAddr (pageOfRegisters s) (Nat.le_of_lt hk) 0#8
    have hzero : (0#8).toNat < k := by
      rw [BitVec.toNat_ofNat, Nat.zero_mod]
      omega
    rw [if_pos hzero, BitVec.add_zero] at hfirst
    have hopen : pageOfRegisters s k = pageOfRegisters s 0 := by
      rw [pageOfRegisters, if_neg h2, if_neg (by omega)]
      rfl
    rw [registersRead_succ s h2 (by omega), hopen]
    exact congrArg (·, _) hfirst
  · exact readData_registersRead s _ h7
  · rw [registersRead_succ s h2 h7, pageOfRegisters, if_neg h2, if_neg h7]
    rfl

/-- A page of picture registers is copied with the side effects of its reads. -/
theorem memWrite_dma_registers {s : State} {page : Byte} (hs : s.ppu.oam.wf 256 = true) (hpage : 0x20 ≤ page.toNat)
    (hpage' : page.toNat < 0x40) :
    ∃ t, memWrite s 0x4014 page = .ok () t ∧
      (∀ k : Byte, t.ppu.oam.read (s.ppu.oamAddr + k).toNat = pageOfRegisters s k.toNat) ∧
      t = { s with
        ppu := { s.ppu with
          oam := t.ppu.oam, vblank := false, w := false, v := s.ppu.v + 32 * portStep s.ppu
          readBuffer := portFill s 31 }
        cpu := { s.cpu with cycles := s.cpu.cycles + s.params.oamDmaStall } } := by
  obtain ⟨oam, hwrite, hoam⟩ := memWrite_dma_copies (page := page) hs (registersRead_zero s) fun k hk => by
    have haddr := page_toNat page hk
    have hreg : (page ++ BitVec.ofNat 8 k : Word).toNat % 8 = k % 8 := by omega
    rw [memRead_picture (by omega) (by omega), hreg, ppuRegRead_registersRead hs hk]
  exact ⟨_, hwrite, hoam, rfl⟩

end Sys2Proof.Machine
end

section
/-! PROOFS. OAM DMA of plain memory, of the IO block and of the expansion area (rules R75-R79). -/

namespace Sys2Proof.Machine

/-- Plain memory shows a byte at every address outside the registers and the expansion area. -/
theorem peek_eq_some {s : State} {a : Word} (ha : a.toNat < 0x2000 ∨ 0x6000 ≤ a.toNat) : ∃ b, peek s a = some b := by
  unfold peek
  split_ifs with h1 h2 h3
  · exact ⟨_, rfl⟩
  · exact ⟨_, rfl⟩
  · omega
  · exact ⟨_, rfl⟩

/-- A page of plain memory is copied without side effect. -/
theorem memWrite_dma_plain {s : State} {page : Byte} (hs : s.ppu.oam.wf 256 = true)
    (hpage : page.toNat < 0x20 ∨ 0x60 ≤ page.toNat) :
    ∃ t, memWrite s 0x4014 page = .ok () t ∧
      (∀ k : Byte, peek s (page ++ k) = some (t.ppu.oam.read (s.ppu.oamAddr + k).toNat)) ∧
      t = { s with
        ppu := { s.ppu with oam := t.ppu.oam }
        cpu := { s.cpu with cycles := s.cpu.cycles + s.params.oamDmaStall } } := by
  have hsome : ∀ k : Byte, ∃ b, peek s (page ++ k) = some b := by
    intro k
    have hk := k.isLt
    have haddr : (page ++ k : Word).toNat = page.toNat * 256 + k.toNat := wordOf_toNat page k
    exact peek_eq_some (by omega)
  choose byte hbyte using hsome
  obtain ⟨oam, hwrite, hoam⟩ := memWrite_dma_copies (env := fun _ => s)
    (byte := fun k => byte (BitVec.ofNat 8 k)) hs rfl fun k _ => memRead_plain (hbyte (BitVec.ofNat 8 k))
  refine ⟨_, hwrite, fun k => ?_, rfl⟩
  rw [hbyte k]
  have hk := hoam k
  rw [BitVec.ofNat_toNat, BitVec.setWidth_eq] at hk
  exact congrArg some hk.symm

/-- The host's side before read `k` of the IO block, whose byte 22 is the controller port (rule R76). -/
def ioRead (s : State) (k : Nat) : State := s.setHost (if k ≤ 22 then s.host else (controllerRead s).2.host)

/-- Byte `k` of the IO block as the DMA reads it (rules R75, R76). -/
def ioByte (s : State) (k : Nat) : Byte :=
  if k = 22 then s.params.controllerReadUpper ++ (controllerRead s).1 else s.params.ioReadValue

/-- The controller's answer concerns the host alone, and depends on it alone (rule R76). -/
theorem controllerRead_withOam (s : State) (oam : Memory) :
    controllerRead (withOam s oam) =
      ((controllerRead s).1, withOam (s.setHost (controllerRead s).2.host) oam) := by
  unfold controllerRead
  rw [show (withOam s oam).host = s.host from rfl]
  split <;> rfl

/-- Every read of the first 32 bytes of page 0x40 (rules R75-R77). -/
theorem memRead_ioRead (s : State) (oam : Memory) {k : Nat} (hk : k < 32) :
    memRead (withOam (ioRead s k) oam) ((0x40 : Byte) ++ BitVec.ofNat 8 k) =
      .ok (ioByte s k) (withOam (ioRead s (k + 1)) oam) := by
  have haddr : ((0x40 : Byte) ++ BitVec.ofNat 8 k : Word).toNat = 64 * 256 + k := page_toNat 0x40 (by omega)
  by_cases h : k = 22
  · subst h
    rw [ioByte, if_pos rfl, ioRead, ioRead, if_pos (Nat.le_refl 22), if_neg (by omega)]
    exact (memRead_controller _).trans (by rw [controllerRead_withOam]; rfl)
  · have hport : ((0x40 : Byte) ++ BitVec.ofNat 8 k : Word) ≠ 0x4016 := by
      intro e
      have e' := congrArg BitVec.toNat e
      rw [haddr, show (0x4016 : Word).toNat = 16406 from rfl] at e'
      omega
    have hhost : ioRead s (k + 1) = ioRead s k := by
      have hle : k + 1 ≤ 22 ↔ k ≤ 22 := by omega
      simp only [ioRead, hle]
    rw [memRead_io (by omega) (by omega) hport, ioByte, if_neg h, hhost]
    rfl

/-- A copy that starts in the expansion area is fatal at its first byte (rule R78). -/
theorem oamDmaLoop_fatal {n : Nat} {src : Word} {dst : Byte} {s : State} (h : 0x4020 ≤ src.toNat)
    (h' : src.toNat < 0x6000) :
    oamDmaLoop (n + 1) src dst s = .fatal (.unimplemented .expansion src.toNat none) s := by
  rw [oamDmaLoop, memRead_expansion h h', Res.bind_fatal]

/-- Page 0x40 is copied as far as the IO block goes, and is then fatal. -/
theorem memWrite_dma_io {s : State} (hs : s.ppu.oam.wf 256 = true) :
    ∃ t, memWrite s 0x4014 0x40 = .fatal (.unimplemented .expansion 0x4020 none) t ∧
      (∀ k : Byte, t.ppu.oam.read (s.ppu.oamAddr + k).toNat =
        if k.toNat = 22 then s.params.controllerReadUpper ++ (controllerRead s).1
        else if k.toNat < 32 then s.params.ioReadValue else s.ppu.oam.read (s.ppu.oamAddr + k).toNat) ∧
      t = { s with ppu := { s.ppu with oam := t.ppu.oam }, host := (controllerRead s).2.host } := by
  have hcopy := oamDmaLoop_copies (src := (0x40 : Byte) ++ 0x00#8) (dst := s.ppu.oamAddr) (oam := s.ppu.oam)
    (env := ioRead s) (byte := ioByte s) (n := 32)
    (fun k hk => by rw [page_add 0x40 (by omega)]; exact memRead_ioRead s _ hk) 224
  have hread := oamAfter_read hs s.ppu.oamAddr (ioByte s) (n := 32) (by decide)
  have hstart : withOam (ioRead s 0) s.ppu.oam = s := rfl
  rw [hstart] at hcopy
  generalize oamAfter s.ppu.oam s.ppu.oamAddr (ioByte s) 32 = oam at hcopy hread
  have hloop : oamDmaLoop 256 ((0x40 : Byte) ++ 0x00#8) s.ppu.oamAddr s =
      .fatal (.unimplemented .expansion 0x4020 none) (withOam (ioRead s 32) oam) :=
    hcopy.trans (oamDmaLoop_fatal (n := 223) (by decide) (by decide))
  refine ⟨withOam (ioRead s 32) oam, ?_, fun k => ?_, rfl⟩
  · rw [memWrite_dma, oamDma, hloop, Res.bind_fatal]
  · rw [show (withOam (ioRead s 32) oam).ppu.oam = oam from rfl, hread k, ioByte]
    split_ifs
    · rfl
    · rfl
    · omega
    · rfl

theorem MemoriesWf.oam {s : State} (hs : MemoriesWf s) : s.ppu.oam.wf 256 = true := by
  obtain ⟨-, -, hoam, -⟩ := hs
  exact hoam

/-- Settles O15, by the kind of the page. -/
theorem oamDmaCopies : Obligations.OamDmaCopies := by
  refine ⟨fun s page hs hpage => memWrite_dma_plain hs.oam hpage,
    fun s page hs hpage hpage' => memWrite_dma_registers hs.oam hpage hpage',
    fun s hs => memWrite_dma_io hs.oam, fun s page hpage hpage' => ?_⟩
  have haddr : (page ++ 0x00#8 : Word).toNat = page.toNat * 256 :=
    (page_toNat page (k := 0) (by decide)).trans (Nat.add_zero _)
  have hloop : oamDmaLoop 256 (page ++ 0x00#8) s.ppu.oamAddr s =
      .fatal (.unimplemented .expansion (page ++ 0x00#8 : Word).toNat none) s :=
    oamDmaLoop_fatal (n := 255) (by omega) (by omega)
  rw [memWrite_dma, oamDma, hloop, haddr, Res.bind_fatal]

end Sys2Proof.Machine
end

section
/-! PROOFS. Decoding and encoding (rules R120-R123, R126, R127, R320): each instruction stands in one slot of the opcode
map, and what the slot's form reads from operand bytes is what encodes as the opcode and those bytes. -/

namespace Sys2Proof

/-- The form, on these operand bytes, is this instruction (rules R120-R122). -/
inductive Form.Reads : Form → List Byte → Instr → Prop where
  | imp (i : Instr) : Reads (.imp i) [] i
  | byte (mk : Byte → Instr) (b : Byte) : Reads (.byte mk) [b] (mk b)
  | word (mk : Word → Instr) (a : Word) : Reads (.word mk) [loByte a, hiByte a] (mk a)

/-- Bytes decode where their opcode is mapped to a form that reads the operand bytes. -/
theorem decode_of_reads {u : UnofficialOpcodes} {op : Byte} {f : Form} {bs : List Byte} {i : Instr}
    (hf : formOf u op = some f) (h : f.Reads bs i) (rest : List Byte) :
    decode u (op :: bs ++ rest) = .ok (i, rest) := by
  cases h with
  | imp => simp [decode, hf]
  | byte => simp [decode, hf]
  | word => simp [decode, hf]

/-- Nothing else decodes. -/
theorem reads_of_decode {u : UnofficialOpcodes} {bytes rest : List Byte} {i : Instr}
    (h : decode u bytes = .ok (i, rest)) :
    ∃ op f bs, bytes = op :: bs ++ rest ∧ formOf u op = some f ∧ f.Reads bs i := by
  unfold decode at h
  split at h
  · cases h
  · rename_i op tail
    split at h
    · cases h
    · cases h
      exact ⟨op, _, [], rfl, ‹_›, .imp i⟩
    · rename_i mk b _ hf
      cases h
      exact ⟨op, _, [b], rfl, hf, .byte mk b⟩
    · rename_i mk lo hi _ hf
      cases h
      have hreads := Form.Reads.word mk (wordOf hi lo)
      rw [loByte_wordOf, hiByte_wordOf] at hreads
      exact ⟨op, _, [lo, hi], rfl, hf, hreads⟩
    · cases h

/-- An opcode byte without an entry is refused whatever follows it (rule R127). -/
theorem decode_unmapped {u : UnofficialOpcodes} {op : Byte} (h : formOf u op = none) (tail : List Byte) :
    decode u (op :: tail) = .error (.unmapped op) := by
  simp [decode, h]

end Sys2Proof

namespace Sys2Proof.Machine

/-- An instruction's opcode byte is mapped where the instruction is (rules R123, R320), to a form that reads the
instruction from its own operand bytes; and what that form reads from any operand bytes is encoded as the opcode byte
and those bytes (rules R120-R122, R126). -/
theorem formOf_opcodeOf (i : Instr) :
    ∃ f, (∀ u, formOf u (opcodeOf i) = if i.wellFormed u then some f else none) ∧ f.Reads (encode i).tail i ∧
      ∀ bs j, f.Reads bs j → encode j = opcodeOf i :: bs := by
  cases i <;>
  · dsimp only [opcodeOf, encode, List.headD_cons, List.tail_cons]
    refine ⟨_, fun u => ?mapped, by constructor, fun bs j h => ?encoded⟩
    case mapped => cases u <;> rfl
    case encoded => cases h; rfl

/-- An opcode byte is mapped exactly where its instruction is (rules R123, R320). -/
theorem formOf_opcodeOf_isSome (u : UnofficialOpcodes) (i : Instr) :
    (formOf u (opcodeOf i)).isSome = i.wellFormed u := by
  obtain ⟨f, hf, -, -⟩ := formOf_opcodeOf i
  rw [hf]
  cases i.wellFormed u <;> rfl

/-- A mapped instruction is read from its own encoding. -/
theorem encode_reads {u : UnofficialOpcodes} {i : Instr} (hi : i.wellFormed u = true) :
    ∃ f bs, encode i = opcodeOf i :: bs ∧ formOf u (opcodeOf i) = some f ∧ f.Reads bs i := by
  obtain ⟨f, hf, hreads, hencode⟩ := formOf_opcodeOf i
  exact ⟨f, _, hencode _ i hreads, by rw [hf, if_pos hi], hreads⟩

/-- The unofficial rows are mapped beside the default ones, not instead of them (rule R320). -/
theorem formOf_nestest {u : UnofficialOpcodes} {op : Byte} {f : Form} (h : formOf u op = some f) :
    formOf .nestest op = some f := by
  cases u with
  | nestest => exact h
  | none =>
    unfold formOf at *
    cases hslot : slotOf op with
    | unmapped => simp [hslot] at h
    | official g => simpa [hslot] using h
    | unofficial g => simp [hslot] at h

/-- A mapped opcode byte is that of the instruction the decoder reads from it and zero bytes. -/
theorem opcodeOf_decodeTableWord_of_mapped :
    ∀ op : Byte, (formOf .nestest op).isSome → (decodeTableWord 8 op.toNat).map opcodeOf = some op := by
  decide +kernel

/-- Every mapped opcode byte is an instruction's. -/
theorem exists_opcodeOf {u : UnofficialOpcodes} {op : Byte} {f : Form} (h : formOf u op = some f) :
    ∃ i : Instr, opcodeOf i = op := by
  have hmapped : (formOf .nestest op).isSome := Option.isSome_of_eq_some (formOf_nestest h)
  obtain ⟨i, -, hi⟩ := Option.map_eq_some_iff.1 (opcodeOf_decodeTableWord_of_mapped op hmapped)
  exact ⟨i, hi⟩

/-- What a mapped opcode byte and its operand bytes give is encoded as these bytes (rules R120-R122). -/
theorem encode_of_reads {u : UnofficialOpcodes} {op : Byte} {f : Form} {bs : List Byte} {i : Instr}
    (hf : formOf u op = some f) (h : f.Reads bs i) : encode i = op :: bs := by
  obtain ⟨j, rfl⟩ := exists_opcodeOf hf
  obtain ⟨g, hg, -, hencode⟩ := formOf_opcodeOf j
  obtain rfl : g = f := Option.some.inj ((hg .nestest).symm.trans (formOf_nestest hf))
  exact hencode bs i h

/-- Under either setting exactly the encodings of the instructions it maps decode (rules R120-R123, R320). -/
theorem decode_eq_ok_iff {u : UnofficialOpcodes} {bytes rest : List Byte} {i : Instr} :
    decode u bytes = .ok (i, rest) ↔ encode i ++ rest = bytes ∧ i.wellFormed u = true := by
  constructor
  · intro h
    obtain ⟨op, f, bs, rfl, hf, hreads⟩ := reads_of_decode h
    have hencode := encode_of_reads hf hreads
    have hop : opcodeOf i = op := by rw [opcodeOf, hencode, List.headD_cons]
    exact ⟨by rw [hencode], by rw [← formOf_opcodeOf_isSome, hop, hf, Option.isSome_some]⟩
  · rintro ⟨rfl, hi⟩
    obtain ⟨f, bs, hencode, hf, hreads⟩ := encode_reads hi
    rw [hencode]
    exact decode_of_reads hf hreads rest

/-- The encoding of an instruction that is not mapped is refused with its opcode byte (rule R127). -/
theorem decode_encode_unmapped {u : UnofficialOpcodes} {i : Instr} (hi : i.wellFormed u = false) (rest : List Byte) :
    decode u (encode i ++ rest) = .error (.unmapped (opcodeOf i)) := by
  obtain ⟨f, bs, hencode, -, -⟩ := encode_reads (u := .nestest) (i := i) rfl
  rw [hencode]
  refine decode_unmapped ?_ (bs ++ rest)
  rw [← Option.not_isSome_iff_eq_none, formOf_opcodeOf_isSome, hi]
  exact Bool.false_ne_true

/-- Settles O1: `decode_eq_ok_iff` from the encoding's side, and an unofficial instruction has no entry by default. -/
theorem decodeOfEncode : Obligations.DecodeOfEncode := by
  intro i rest
  refine ⟨decode_eq_ok_iff.2 ⟨rfl, rfl⟩, ?_⟩
  split
  case isTrue h => exact decode_encode_unmapped (by simp [Instr.wellFormed, h]) rest
  case isFalse h => exact decode_eq_ok_iff.2 ⟨rfl, by simp [Instr.wellFormed, h]⟩

/-- Settles O2: `decode_eq_ok_iff` from the bytes' side. -/
theorem encodeOfDecode : Obligations.EncodeOfDecode :=
  fun _ _ _ _ h => decode_eq_ok_iff.1 h

/-- Settles O5: the decoder evaluates to each instruction. -/
theorem decodedWords : Obligations.DecodedWords :=
  ⟨rfl, rfl, rfl, rfl, rfl, rfl, rfl⟩

end Sys2Proof.Machine
end

section
/-! PROOFS. The opcode fetch (rules R123, R127, R150): an unmapped byte is fatal, and an instruction that lies in plain
memory at PC is fetched and run. -/

namespace Sys2Proof.Machine

/-- A step whose fetch answers runs the instruction from the state the fetch left (rule R462). -/
theorem step_of_fetch {s t : State} {i : Instr} (hs : s.fault = none) (h : fetchInstr s = .ok i t) :
    step s = afterExec t (exec i t) := by
  simp [step, hs, h]

/-- A step whose fetch is fatal ends there (rules R462, R495). -/
theorem step_of_fetch_fatal {s t : State} {f : Fatal} (hs : s.fault = none) (h : fetchInstr s = .fatal f t) :
    step s = faulted f t := by
  simp [step, hs, h, Res.outcome, faulted]

/-- Fetching an unmapped byte is fatal, and only the read of that byte has happened (rule R127). -/
theorem fetchInstr_unmapped {s t : State} {op : Byte} (h : memRead s s.cpu.pc = .ok op t)
    (hop : formOf s.params.unofficial op = none) : fetchInstr s = .fatal (.unmappedOpcode op s.cpu.pc) t := by
  rw [fetchInstr, h, Res.bind_ok, hop]

/-- Two bytes of plain memory are read without side effect (rule R83). -/
theorem memRead16_plain {s : State} {a : Word} {lo hi : Byte} (hlo : peek s a = some lo)
    (hhi : peek s (a + 1) = some hi) : memRead16 s a = .ok (wordOf hi lo) s := by
  rw [memRead16, memRead_plain hlo, Res.bind_ok, memRead_plain hhi, Res.bind_ok]

/-- Opcode and operand bytes in plain memory are fetched without side effect (rules R123, R150). -/
theorem fetchInstr_of_reads {s : State} {op : Byte} {f : Form} {bs : List Byte} {i : Instr}
    (hf : formOf s.params.unofficial op = some f) (h : f.Reads bs i) (hbytes : holds s s.cpu.pc (op :: bs)) :
    fetchInstr s = .ok i s := by
  obtain ⟨hop, hbs⟩ := hbytes
  rw [fetchInstr, memRead_plain hop, Res.bind_ok, hf]
  cases h with
  | imp => rfl
  | byte mk b =>
    obtain ⟨hb, -⟩ := hbs
    rw [memRead_plain hb]
    rfl
  | word mk a =>
    obtain ⟨hlo, hhi, -⟩ := hbs
    rw [memRead16_plain hlo hhi, wordOf_halves]
    rfl

/-- A mapped instruction whose encoding lies in plain memory at PC is fetched without side effect. -/
theorem fetchInstr_of_holds {s : State} {i : Instr} (hi : i.wellFormed s.params.unofficial = true)
    (hbytes : holds s s.cpu.pc (encode i)) : fetchInstr s = .ok i s := by
  obtain ⟨f, bs, hencode, hf, hreads⟩ := encode_reads hi
  exact fetchInstr_of_reads hf hreads (hencode ▸ hbytes)

/-- With every row mapped, the bytes left are those of rule R127. -/
theorem formOf_nestest_eq_none_iff : ∀ op : Byte, formOf .nestest op = none ↔ op ∈ neverMapped := by
  decide +kernel

/-- The default maps a row's opcode byte exactly where the row is marked official (rules R126, R127). -/
theorem formOf_none_isSome_of_row : ∀ r ∈ dispatchTable, (formOf .none r.op).isSome = r.official := by
  decide +kernel

/-- By default the unmapped bytes are those no official row has (rule R127). -/
theorem formOf_none_eq_none_iff (op : Byte) :
    formOf .none op = none ↔ ∀ r ∈ dispatchTable, r.op = op → r.official = false := by
  constructor
  · rintro h r hr rfl
    rw [← formOf_none_isSome_of_row r hr, h, Option.isSome_none]
  · intro h
    rw [Option.eq_none_iff_forall_ne_some]
    intro f hf
    obtain ⟨i, rfl⟩ := exists_opcodeOf hf
    have hrow := tableRowOf_mem i
    have hofficial := formOf_none_isSome_of_row _ hrow
    rw [h _ hrow rfl, show (tableRowOf i).op = opcodeOf i from rfl, hf] at hofficial
    cases hofficial

/-- Settles O4: the two sets of bytes by the table, the two fetches by the laws above. -/
theorem unmappedOpcodes : Obligations.UnmappedOpcodes := by
  refine ⟨rfl, formOf_nestest_eq_none_iff, formOf_none_eq_none_iff, by decide +kernel, ?unmapped, ?mapped⟩
  case unmapped => exact fun s t op hs hread hop => step_of_fetch_fatal hs (fetchInstr_unmapped hread hop)
  case mapped => exact fun s i hs hi hbytes => step_of_fetch hs (fetchInstr_of_holds hi hbytes)

end Sys2Proof.Machine
end

section
/-! PROOFS. The addressing modes (rules R151-R163) and the jumps (rules R160, R269): the mode function, its fatal
pointer reads, and an operation that sets PC to the address found. -/

namespace Sys2Proof.Machine

/-- Where the mode function's reads answer, PC then moves past the instruction (rule R150). -/
theorem resolve_of_effective {s t : State} {o : Operand} {r : Resolved} (h : effective s o = .ok r t) :
    resolve s o = .ok r (past t o) := by
  rw [resolve, h, Res.bind_ok]
  rfl

/-- A pointer is two reads, the second in the same page and after the effects of the first (rule R160). -/
theorem readPointer_of_reads {s t u : State} {a : Word} {lo hi : Byte} (hlo : memRead s a = .ok lo t)
    (hhi : memRead t (samePageNext a) = .ok hi u) : readPointer s a = .ok (wordOf hi lo) u := by
  rw [readPointer, hlo, Res.bind_ok, ← samePageNext_eq, hhi, Res.bind_ok]

theorem readPointer_fatal_low {s t : State} {a : Word} {f : Fatal} (h : memRead s a = .fatal f t) :
    readPointer s a = .fatal f t := by
  rw [readPointer, h, Res.bind_fatal]

theorem readPointer_fatal_high {s t u : State} {a : Word} {lo : Byte} {f : Fatal} (hlo : memRead s a = .ok lo t)
    (hhi : memRead t (samePageNext a) = .fatal f u) : readPointer s a = .fatal f u := by
  rw [readPointer, hlo, Res.bind_ok, ← samePageNext_eq, hhi, Res.bind_fatal]

/-- The indirect mode answers the pointer it read (rule R160). -/
theorem effective_ind {s t : State} {a w : Word} (h : readPointer s a = .ok w t) :
    effective s (.ind a) = .ok { target := .mem w, crossed := false } t := by
  rw [effective, h, Res.bind_ok]

/-- The indirect mode is fatal where its pointer is, before PC moves (rules R150, R160). -/
theorem resolve_ind_fatal {s t : State} {a : Word} {f : Fatal} (h : readPointer s a = .fatal f t) :
    resolve s (.ind a) = .fatal f t := by
  rw [resolve, effective, h, Res.bind_fatal, Res.bind_fatal]

/-- Settles O8: the modes with an address by `effective_eq`, the indirect one by its two reads, the others by
definition. -/
theorem effectiveAddresses : Obligations.EffectiveAddresses := by
  intro s
  refine ⟨?address, ?implied, ?accumulator, ?immediate, ?relative, ?indirect⟩
  case address => exact fun o ea h => resolve_of_effective (effective_eq h)
  case implied => exact resolve_of_effective rfl
  case accumulator => exact resolve_of_effective rfl
  case immediate => exact fun v => resolve_of_effective rfl
  case relative => exact fun d => resolve_of_effective rfl
  case indirect => exact fun a lo hi t u hlo hhi => resolve_of_effective (effective_ind (readPointer_of_reads hlo hhi))

/-- An instruction whose mode function is fatal ends there (rules R150, R495). -/
theorem exec_of_resolve_fatal {i : Instr} {s t : State} {f : Fatal} (h : resolve s i.operand = .fatal f t) :
    exec i s = faulted f t := by
  rw [exec_eq_run, runInstr, cpuStep, h, Res.bind_fatal]
  rfl

/-- A jump to an address its mode function found sets PC and counts its row's cycles (rules R150, R269). -/
theorem exec_jump {i : Instr} {s t : State} {ea : Word} {base : Nat} (hrow : rowOf i = ⟨base, false, opJmp⟩)
    (h : effective s i.operand = .ok { target := .mem ea, crossed := false } t) :
    exec i s = .next { t with cpu := { t.cpu with pc := ea, cycles := t.cpu.cycles + base } } := by
  rw [exec_eq_run, hrow, runInstr, cpuStep, resolve_of_effective h, Res.bind_ok]
  rfl

/-- Settles O32: a jump sets PC to the address its mode function finds, and ends where that is fatal. -/
theorem jumpInstructions : Obligations.JumpInstructions := by
  constructor
  · exact fun s a => ⟨rfl, exec_jump rfl rfl⟩
  · refine fun s a => ⟨rfl, ?answers, ?lowFatal, ?highFatal⟩
    case answers => exact fun lo hi t u hlo hhi => exec_jump rfl (effective_ind (readPointer_of_reads hlo hhi))
    case lowFatal => exact fun f t h => exec_of_resolve_fatal (resolve_ind_fatal (readPointer_fatal_low h))
    case highFatal =>
      exact fun lo t f u hlo hhi => exec_of_resolve_fatal (resolve_ind_fatal (readPointer_fatal_high hlo hhi))

end Sys2Proof.Machine
end

section
/-! PROOFS. The row an opcode byte selects (rules R120, R126), and the instruction cycle of rule R150 around an
operation that answers or is fatal. -/

namespace Sys2Proof.Machine

/-- The instruction a form reads from operand bytes 0x00. -/
def zeroOperand : Form → Instr
  | .imp i => i
  | .byte mk => mk 0x00
  | .word mk => mk 0x0000

/-- The mode and the row an opcode byte selects, with the unofficial rows mapped. -/
def rowAt (op : Byte) : Option (Mode × Row) :=
  (formOf .nestest op).map fun f => (modeOf (zeroOperand f).operand, rowOf (zeroOperand f))

/-- The opcode byte alone selects an instruction's mode and row (rules R120, R126). -/
theorem rowAt_opcodeOf (i : Instr) : rowAt (opcodeOf i) = some (modeOf i.operand, rowOf i) := by
  cases i <;>
  · dsimp only [opcodeOf, encode, List.headD_cons]
    rfl

/-- A property of the instructions with one row for each mode is one of the forms whose opcodes select these rows. -/
theorem everyForm_of_rows {forms : List (Byte × Mode)} {P : Instr → Prop} {row : Mode → Row}
    (hP : ∀ i, rowOf i = row (modeOf i.operand) → P i)
    (hforms : forms.map (fun e => rowAt e.1) = forms.map fun e => some (e.2, row e.2)) : EveryForm forms P := by
  intro i hi
  obtain ⟨e, he, hop⟩ := List.mem_map.1 hi
  have hrow : rowAt e.1 = some (e.2, row e.2) := List.map_eq_map_iff.1 hforms e he
  rw [hop, rowAt_opcodeOf] at hrow
  obtain ⟨hmode, hrow⟩ := Prod.mk.inj (Option.some.inj hrow)
  rw [← hop, hmode]
  exact ⟨he, hP i (by rw [hrow, hmode])⟩

/-- An instruction whose mode function and operation answer costs its row's cycles (rules R126, R150). -/
theorem exec_of_op_ok {i : Instr} {s s1 s2 : State} {r : Resolved} {n : Nat} (hr : resolve s i.operand = .ok r s1)
    (hop : (rowOf i).op r.target s1 = .ok n s2) :
    exec i s = .next (s2.addCycles ((rowOf i).base + ((rowOf i).pagePenalty && r.crossed).toNat + n)) := by
  rw [exec_eq_run, runInstr, cpuStep, hr, Res.bind_ok, hop, Res.bind_ok]
  rfl

/-- An instruction whose operation is fatal ends there (rules R150, R495). -/
theorem exec_of_op_fatal {i : Instr} {s s1 s2 : State} {r : Resolved} {f : Fatal}
    (hr : resolve s i.operand = .ok r s1) (hop : (rowOf i).op r.target s1 = .fatal f s2) :
    exec i s = faulted f s2 := by
  rw [exec_eq_run, runInstr, cpuStep, hr, Res.bind_ok, hop, Res.bind_fatal]
  rfl

/-- An operand that answers is read at the target its mode function finds (rules R150, R166). -/
theorem Loads.target {s t : State} {o : Operand} {v : Byte} (h : Loads s o v t) :
    ∃ a, resolve s o = .ok ⟨a, crosses s o⟩ (past s o) ∧ readTarget (past s o) a = .ok v t := by
  cases o with
  | acc =>
    obtain ⟨rfl, rfl⟩ := h
    exact ⟨.acc, resolve_of_effective rfl, rfl⟩
  | imm b =>
    obtain ⟨rfl, rfl⟩ := h
    exact ⟨.imm _ v, resolve_of_effective rfl, rfl⟩
  | imp | zp _ | zpx _ | zpy _ | abs _ | absx _ | absy _ | ind _ | indx _ | indy _ | rel _ =>
    obtain ⟨ea, hea, hread⟩ := h
    exact ⟨.mem ea, resolve_of_effective (effective_eq hea), hread⟩

/-- An operand whose read is fatal has an address (rules R150, R166). -/
theorem LoadFails.target {s t : State} {o : Operand} {f : Fatal} (h : LoadFails s o f t) :
    ∃ a, resolve s o = .ok ⟨a, crosses s o⟩ (past s o) ∧ readTarget (past s o) a = .fatal f t := by
  obtain ⟨ea, hea, hread⟩ := h
  exact ⟨.mem ea, resolve_of_effective (effective_eq hea), hread⟩

/-- A store that answers writes to the target the mode function finds (rules R150, R166). -/
theorem Saves.target {s u t : State} {o : Operand} {v : Byte} (h : Saves s o u v t) :
    ∃ a, resolve s o = .ok ⟨a, crosses s o⟩ (past s o) ∧ writeTarget u a v = .ok () t := by
  cases o with
  | acc =>
    obtain rfl := h
    exact ⟨.acc, resolve_of_effective rfl, rfl⟩
  | imp | imm _ | zp _ | zpx _ | zpy _ | abs _ | absx _ | absy _ | ind _ | indx _ | indy _ | rel _ =>
    obtain ⟨ea, hea, hwrite⟩ := h
    exact ⟨.mem ea, resolve_of_effective (effective_eq hea), hwrite⟩

/-- A store that is fatal has an address (rules R150, R166). -/
theorem SaveFails.target {s u t : State} {o : Operand} {v : Byte} {f : Fatal} (h : SaveFails s o u v f t) :
    ∃ a, resolve s o = .ok ⟨a, crosses s o⟩ (past s o) ∧ writeTarget u a v = .fatal f t := by
  obtain ⟨ea, hea, hwrite⟩ := h
  exact ⟨.mem ea, resolve_of_effective (effective_eq hea), hwrite⟩

end Sys2Proof.Machine
end

section
/-! PROOFS. Loads, stores and register instructions (rules R180-R191, R246-R249, R322, R323): one operation for each
kind, and the cycles of its modes. -/

namespace Sys2Proof.Machine

/-- Read the operand, then this effect of the byte. -/
def readOp (effect : Byte → State → State) : Operation := fun t s =>
  (readTarget s t).bind fun v s1 => .ok 0 (effect v s1)

/-- The row of a reading instruction by mode: base cycles, page-crossing cycle, operation (rules R124, R126, R164). -/
def readRow (effect : Byte → State → State) : Mode → Row
  | .zp => ⟨3, false, readOp effect⟩
  | .zpx | .zpy | .abs => ⟨4, false, readOp effect⟩
  | .absx | .absy => ⟨4, true, readOp effect⟩
  | .indx => ⟨6, false, readOp effect⟩
  | .indy => ⟨5, true, readOp effect⟩
  | .imp | .acc | .imm | .ind | .rel => ⟨2, false, readOp effect⟩

theorem readRow_op (effect : Byte → State → State) (m : Mode) : (readRow effect m).op = readOp effect := by
  cases m <;> rfl

/-- A reading row costs what the spec lists for its mode (rules R126, R164). -/
theorem readRow_cycles (effect : Byte → State → State) (s : State) (o : Operand) :
    (readRow effect (modeOf o)).base + ((readRow effect (modeOf o)).pagePenalty && crosses s o).toNat =
      readCost s o := by
  cases o <;> rfl

/-- An instruction with a reading row reads its operand once, has the effect, and ends where the read is fatal. -/
theorem readsOperand_of_row {effect : Byte → State → State} {i : Instr}
    (hrow : rowOf i = readRow effect (modeOf i.operand)) : ReadsOperand i effect := by
  have hop : (rowOf i).op = readOp effect := by rw [hrow, readRow_op]
  intro s
  constructor
  · intro v t h
    obtain ⟨a, hr, hread⟩ := h.target
    rw [exec_of_op_ok hr (s2 := effect v t) (n := 0) (by rw [hop, readOp, hread, Res.bind_ok]), hrow, readRow_cycles]
    rfl
  · intro f t h
    obtain ⟨a, hr, hread⟩ := h.target
    exact exec_of_op_fatal hr (by rw [hop, readOp, hread, Res.bind_fatal])

/-- Store this value of the registers, and nothing else. -/
def valueStoreOp (value : Cpu → Byte) : Operation := fun t s => storeOp (value s.cpu) t s

/-- The row of a store by mode (rules R124, R126, R165). -/
def storeRow (value : Cpu → Byte) : Mode → Row
  | .zp => ⟨3, false, valueStoreOp value⟩
  | .zpx | .zpy | .abs => ⟨4, false, valueStoreOp value⟩
  | .absx | .absy => ⟨5, false, valueStoreOp value⟩
  | .indx | .indy => ⟨6, false, valueStoreOp value⟩
  | .imp | .acc | .imm | .ind | .rel => ⟨0, false, valueStoreOp value⟩

theorem storeRow_op (value : Cpu → Byte) (m : Mode) : (storeRow value m).op = valueStoreOp value := by
  cases m <;> rfl

/-- A storing row costs what the spec lists for its mode (rules R126, R165). -/
theorem storeRow_cycles (value : Cpu → Byte) (s : State) (o : Operand) :
    (storeRow value (modeOf o)).base + ((storeRow value (modeOf o)).pagePenalty && crosses s o).toNat =
      storeCost o := by
  cases o <;> rfl

/-- An instruction with a storing row writes the value it had before PC moved, and ends where the write is fatal. -/
theorem storesValue_of_row {value : Cpu → Byte} (hvalue : ∀ c pc, value { c with pc := pc } = value c) {i : Instr}
    (hrow : rowOf i = storeRow value (modeOf i.operand)) : StoresValue i value := by
  have hop (t : Target) (s : State) :
      (rowOf i).op t (past s i.operand) = storeOp (value s.cpu) t (past s i.operand) := by
    rw [hrow, storeRow_op, valueStoreOp, past, hvalue]
  intro s
  constructor
  · intro t h
    obtain ⟨a, hr, hwrite⟩ := h.target
    rw [exec_of_op_ok hr (s2 := t) (n := 0) (by rw [hop, storeOp, hwrite, Res.bind_ok]), hrow, storeRow_cycles]
    rfl
  · intro f t h
    obtain ⟨a, hr, hwrite⟩ := h.target
    exact exec_of_op_fatal hr (by rw [hop, storeOp, hwrite, Res.bind_fatal])

/-- An implied instruction whose row costs 2 cycles is described by its operation after PC has moved. -/
theorem registerOnly_of_row {i : Instr} {byte : Byte} {op : Operation} {effect : Cpu → Cpu}
    (hbyte : encode i = [byte]) (himp : i.operand = .imp) (hrow : rowOf i = ⟨2, false, op⟩)
    (hop : ∀ s, op .none (past s .imp) =
      .ok 0 { s with cpu := { effect s.cpu with pc := s.cpu.pc + 1, cycles := s.cpu.cycles } }) :
    RegisterOnly i byte effect := by
  refine ⟨hbyte, fun s => ?_⟩
  have hr : resolve s i.operand = .ok ⟨.none, false⟩ (past s .imp) := by rw [himp]; exact resolve_of_effective rfl
  rw [exec_of_op_ok hr ((congrArg (fun row => row.op .none (past s .imp)) hrow).trans (hop s)), hrow]
  rfl

/-- Settles O24: each operation after PC has moved, TXS without flags. -/
theorem registerInstructions : Obligations.RegisterInstructions := by
  refine ⟨?tax, ?tay, ?txa, ?tya, ?tsx, ?txs, ?inx, ?iny, ?dex, ?dey⟩ <;>
  exact registerOnly_of_row rfl rfl rfl fun _ => rfl

/-- Settles O22: the opcodes of each list select the reading rows of their modes. -/
theorem loadInstructions : Obligations.LoadInstructions := by
  refine ⟨?lda, ?ldx, ?ldy, ?lax⟩ <;>
  exact everyForm_of_rows (fun _ => readsOperand_of_row) rfl

/-- Settles O23: the opcodes of each list select the storing rows of their modes, and no stored value depends on PC. -/
theorem storeInstructions : Obligations.StoreInstructions := by
  refine ⟨?sta, ?stx, ?sty, ?sax⟩ <;>
  exact everyForm_of_rows (fun _ => storesValue_of_row fun _ _ => rfl) rfl

end Sys2Proof.Machine
end

section
/-! PROOFS. Arithmetic, logic, compare and bit test (rules R210-R221, R324): the flag computations are the ones the spec
writes, and the adder against integer arithmetic. -/

namespace Sys2Proof.Machine

/-- The adder is the one rule R211 writes. -/
theorem addWithCarry_eq_withSum (m : Byte) (s : State) : addWithCarry s m = withSum m s := by
  have hmod (n : Nat) : BitVec.ofNat 8 (n % 256) = BitVec.ofNat 8 n :=
    BitVec.eq_of_toNat_eq (by simp only [BitVec.toNat_ofNat]; omega)
  simp only [withSum, hmod]
  rfl

/-- A property of the reading instructions with these opcodes, from their rows with an equal effect. -/
theorem everyForm_readsOperand {forms : List (Byte × Mode)} {op effect : Byte → State → State}
    (heffect : ∀ m s, op m s = effect m s)
    (hforms : forms.map (fun e => rowAt e.1) = forms.map fun e => some (e.2, readRow op e.2)) :
    EveryForm forms fun i => ReadsOperand i effect := by
  obtain rfl : op = effect := funext₂ heffect
  exact everyForm_of_rows (fun _ => readsOperand_of_row) hforms

/-- Settles O25: the shared adder is rule R211's, and it neither reads nor writes D. -/
theorem addSubtractInstructions : Obligations.AddSubtractInstructions := by
  refine ⟨?adc, ?sbc, ?usbc, fun _ _ _ => rfl⟩
  case adc => exact everyForm_readsOperand (op := fun m s => addWithCarry s m) addWithCarry_eq_withSum rfl
  case sbc | usbc =>
    exact everyForm_readsOperand (op := fun m s => addWithCarry s (m ^^^ 0xFF))
      (fun m => addWithCarry_eq_withSum (m ^^^ 0xFF)) rfl

/-- Settles O27: the opcodes of each list select the reading rows of their modes. -/
theorem logicInstructions : Obligations.LogicInstructions := by
  refine ⟨?and, ?ora, ?eor⟩ <;>
  exact everyForm_of_rows (fun _ => readsOperand_of_row) rfl

/-- Settles O28: the opcodes of each list select the reading rows of their modes, with the flags of rules R217, R221. -/
theorem compareAndBitTest : Obligations.CompareAndBitTest := by
  refine ⟨?cmp, ?cpx, ?cpy, ?bit⟩ <;>
  exact everyForm_of_rows (fun _ => readsOperand_of_row) rfl

/-- The adder's overflow test looks at the sign bit (rule R211). -/
theorem and_signBit_ne_zero (x : Byte) : (x &&& 0x80#8 != 0) = x.msb := by
  revert x; decide

/-- The adder's result is the sum mod 256 (rule R211). -/
theorem addWithCarry_a_toNat (s : State) (m : Byte) :
    (addWithCarry s m).cpu.a.toNat = (s.cpu.a.toNat + m.toNat + s.cpu.c.toNat) % 256 := by
  rw [addWithCarry_a, BitVec.toNat_ofNat]

/-- The signs of both addends differ from the sum's exactly when the signed sum leaves -128..127 (rules R210, R211). -/
theorem addWithCarry_v_eq_overflow (s : State) (m : Byte) :
    (addWithCarry s m).cpu.v =
      decide (s.cpu.a.toInt + m.toInt + s.cpu.c.toNat < -128 ∨ 127 < s.cpu.a.toInt + m.toInt + s.cpu.c.toNat) := by
  have hc := Bool.toNat_le s.cpu.c
  have ha := s.cpu.a.isLt
  have hm := m.isLt
  rw [addWithCarry_v, and_signBit_ne_zero, BitVec.msb_and, BitVec.msb_xor, BitVec.msb_xor, Bool.eq_iff_iff]
  simp only [BitVec.msb_eq_decide, BitVec.toInt_eq_toNat_cond, BitVec.toNat_ofNat, Bool.and_eq_true, Bool.xor_iff_ne,
    ne_eq, decide_eq_decide, decide_eq_true_eq]
  split_ifs <;> omega

/-- The ones complement of a byte, unsigned. -/
theorem toNat_xor_allOnes (m : Byte) : (m ^^^ 0xFF).toNat = 255 - m.toNat :=
  (congrArg BitVec.toNat BitVec.xor_allOnes).trans BitVec.toNat_not

/-- The ones complement of a byte, signed. -/
theorem toInt_xor_allOnes (m : Byte) : (m ^^^ 0xFF).toInt = -1 - m.toInt := by
  have hm := m.isLt
  simp only [BitVec.toInt_eq_toNat_cond, toNat_xor_allOnes]
  split_ifs <;> omega

/-- Settles O26: subtraction is addition of the ones complement, which is 255 - m unsigned and -1 - m signed. -/
theorem signedOverflow : Obligations.SignedOverflow := by
  intro s m
  have hc := Bool.toNat_le s.cpu.c
  have hm := m.isLt
  refine ⟨addWithCarry_c s m, addWithCarry_v_eq_overflow s m, addWithCarry_a_toNat s m,
    ?noBorrow, ?overflow, ?difference⟩
  case noBorrow =>
    rw [addWithCarry_c, toNat_xor_allOnes]
    exact decide_eq_decide.2 (by omega)
  case overflow =>
    rw [addWithCarry_v_eq_overflow, toInt_xor_allOnes]
    exact decide_eq_decide.2 (by omega)
  case difference =>
    rw [addWithCarry_a_toNat, toNat_xor_allOnes]
    omega

end Sys2Proof.Machine
end

section
/-! PROOFS. Shifts, rotates, increments and decrements (rules R240-R245): one read-modify-write operation, the cycles of
its modes, and the results of the shifts as numbers. -/

namespace Sys2Proof.Machine

/-- A store that answers writes to whatever target the mode function found (rules R150, R166). -/
theorem Saves.writeTarget {s s1 u t : State} {o : Operand} {v : Byte} {r : Resolved} (h : Saves s o u v t)
    (hr : resolve s o = .ok r s1) : writeTarget u r.target v = .ok () t := by
  obtain ⟨a, ha, hwrite⟩ := h.target
  obtain ⟨rfl, -⟩ := Res.ok.inj (hr.symm.trans ha)
  exact hwrite

/-- A store that is fatal is fatal at whatever target the mode function found (rules R150, R166). -/
theorem SaveFails.writeTarget {s s1 u t : State} {o : Operand} {v : Byte} {f : Fatal} {r : Resolved}
    (h : SaveFails s o u v f t) (hr : resolve s o = .ok r s1) : writeTarget u r.target v = .fatal f t := by
  obtain ⟨a, ha, hwrite⟩ := h.target
  obtain ⟨rfl, -⟩ := Res.ok.inj (hr.symm.trans ha)
  exact hwrite

/-- Read the operand once, set C, write the new byte once, then this effect of it. -/
def modifyOp (carry : Bool → Byte → Bool) (new : Bool → Byte → Byte) (effect : Byte → State → State) : Operation :=
  fun t s => (readTarget s t).bind fun m u =>
    (writeTarget { u with cpu := { u.cpu with c := carry u.cpu.c m } } t (new u.cpu.c m)).bind fun _ w =>
      .ok 0 (effect (new u.cpu.c m) w)

/-- The row of a read-modify-write by mode (rules R124, R126, R165). -/
def modifyRow (op : Operation) : Mode → Row
  | .acc => ⟨2, false, op⟩
  | .zp => ⟨5, false, op⟩
  | .zpx | .abs => ⟨6, false, op⟩
  | .absx | .absy => ⟨7, false, op⟩
  | .indx | .indy => ⟨8, false, op⟩
  | .imp | .imm | .zpy | .ind | .rel => ⟨0, false, op⟩

theorem modifyRow_op (op : Operation) (m : Mode) : (modifyRow op m).op = op := by
  cases m <;> rfl

/-- A read-modify-write row costs what the spec lists for its mode (rules R126, R165). -/
theorem modifyRow_cycles (op : Operation) (s : State) (o : Operand) :
    (modifyRow op (modeOf o)).base + ((modifyRow op (modeOf o)).pagePenalty && crosses s o).toNat = modifyCost o := by
  cases o <;> rfl

section
variable {carry : Bool → Byte → Bool} {new : Bool → Byte → Byte} {effect : Byte → State → State} {s u w : State}
  {a : Target} {m : Byte} {f : Fatal}

theorem modifyOp_ok (hread : readTarget s a = .ok m u)
    (hwrite : writeTarget { u with cpu := { u.cpu with c := carry u.cpu.c m } } a (new u.cpu.c m) = .ok () w) :
    modifyOp carry new effect a s = .ok 0 (effect (new u.cpu.c m) w) := by
  rw [modifyOp, hread, Res.bind_ok, hwrite, Res.bind_ok]

/-- A fatal store comes after the read and after C is set (rules R240-R243, R495). -/
theorem modifyOp_fatal_store (hread : readTarget s a = .ok m u)
    (hwrite : writeTarget { u with cpu := { u.cpu with c := carry u.cpu.c m } } a (new u.cpu.c m) = .fatal f w) :
    modifyOp carry new effect a s = .fatal f w := by
  rw [modifyOp, hread, Res.bind_ok, hwrite, Res.bind_fatal]

theorem modifyOp_fatal_load (hread : readTarget s a = .fatal f u) : modifyOp carry new effect a s = .fatal f u := by
  rw [modifyOp, hread, Res.bind_fatal]

/-- An instruction with a read-modify-write row reads once, sets C, writes once at the same target, has the effect, and
ends where an access is fatal. -/
theorem modifiesOperand_of_row {i : Instr}
    (hrow : rowOf i = modifyRow (modifyOp carry new effect) (modeOf i.operand)) :
    ModifiesOperand i carry new effect := by
  have hop : (rowOf i).op = modifyOp carry new effect := by rw [hrow, modifyRow_op]
  intro s
  refine ⟨fun m u h => ?answers, ?fatalLoad⟩
  case answers =>
    obtain ⟨a, hr, hread⟩ := h.target
    constructor
    · intro t h
      rw [exec_of_op_ok hr (by rw [hop]; exact modifyOp_ok hread (h.writeTarget hr)), hrow, modifyRow_cycles]
      rfl
    · intro f t h
      exact exec_of_op_fatal hr (by rw [hop]; exact modifyOp_fatal_store hread (h.writeTarget hr))
  case fatalLoad =>
    intro f t h
    obtain ⟨a, hr, hread⟩ := h.target
    exact exec_of_op_fatal hr (by rw [hop]; exact modifyOp_fatal_load hread)

/-- A property of the modifying instructions with these opcodes, from their rows with an equal operation. -/
theorem everyForm_modifiesOperand {forms : List (Byte × Mode)} {op : Operation} (hop : op = modifyOp carry new effect)
    (hforms : forms.map (fun e => rowAt e.1) = forms.map fun e => some (e.2, modifyRow op e.2)) :
    EveryForm forms fun i => ModifiesOperand i carry new effect := by
  subst hop
  exact everyForm_of_rows (fun _ => modifiesOperand_of_row) hforms

/-- A shift sets C to the bit it moves out and writes the shifted byte. -/
theorem shiftOp_eq_modifyOp {g : ShiftFn} {after : State → Byte → State} (hg : ∀ c m, g c m = (carry c m, new c m))
    (heffect : ∀ s r, after s r = effect r s) : shiftOp g after = modifyOp carry new effect := by
  obtain rfl : g = fun c m => (carry c m, new c m) := funext₂ hg
  obtain rfl : after = fun s r => effect r s := funext₂ heffect
  rfl

/-- A step leaves C as it is and writes the byte moved by `k`. -/
theorem stepOp_eq_modifyOp {k : Byte} {moved : Byte → Byte} {after : State → Byte → State}
    (hmoved : ∀ m, m + k = moved m) (heffect : ∀ s r, after s r = effect r s) :
    stepOp k after = modifyOp (fun c _ => c) (fun _ => moved) effect := by
  obtain rfl : (fun m => m + k) = moved := funext hmoved
  obtain rfl : after = fun s r => effect r s := funext₂ heffect
  rfl

end

/-- Z and N as the rules write them (rule R40). -/
theorem setZN_eq_withZN (s : State) (v : Byte) : setZN s v = withZN v s := rfl

/-- ASL doubles the byte mod 256 (rule R240). -/
theorem shiftAsl_eq (c : Bool) (m : Byte) : shiftAsl c m = (m.getLsbD 7, BitVec.ofNat 8 (2 * m.toNat % 256)) := by
  refine Prod.ext rfl (BitVec.eq_of_toNat_eq ?_)
  simp only [shiftAsl, BitVec.toNat_shiftLeft, BitVec.toNat_ofNat, Nat.shiftLeft_eq]
  omega

/-- LSR halves the byte (rule R241). -/
theorem shiftLsr_eq (c : Bool) (m : Byte) : shiftLsr c m = (m.getLsbD 0, BitVec.ofNat 8 (m.toNat / 2)) := by
  have hm := m.isLt
  refine Prod.ext rfl (BitVec.eq_of_toNat_eq ?_)
  simp only [shiftLsr, BitVec.toNat_ushiftRight, BitVec.toNat_ofNat, Nat.shiftRight_eq_div_pow]
  omega

/-- ROL doubles the byte and the carry comes in at the bottom, where the doubled byte has no bit (rule R242). -/
theorem shiftRol_eq (c : Bool) (m : Byte) :
    shiftRol c m = (m.getLsbD 7, BitVec.ofNat 8 ((2 * m.toNat + c.toNat) % 256)) := by
  have hc := Bool.toNat_le c
  have hdouble : m.toNat * 2 ^ 1 % 2 ^ 8 = 2 ^ 1 * (m.toNat % 128) := by omega
  have hor := Nat.two_pow_add_eq_or_of_lt (b := c.toNat) (i := 1) (by omega) (m.toNat % 128)
  refine Prod.ext rfl (BitVec.eq_of_toNat_eq ?_)
  simp only [shiftRol, BitVec.toNat_or, BitVec.toNat_shiftLeft, BitVec.toNat_setWidth, BitVec.toNat_ofBool,
    BitVec.toNat_ofNat, Nat.shiftLeft_eq, hdouble, Nat.mod_eq_of_lt (show c.toNat < 2 ^ 8 by omega), ← hor]
  omega

/-- ROR halves the byte and the carry comes in at the top, where the halved byte has no bit (rule R243). -/
theorem shiftRor_eq (c : Bool) (m : Byte) :
    shiftRor c m = (m.getLsbD 0, BitVec.ofNat 8 (m.toNat / 2 + 128 * c.toNat)) := by
  have hc := Bool.toNat_le c
  have hm := m.isLt
  have hcarry : c.toNat % 2 ^ 8 * 2 ^ 7 % 2 ^ 8 = 2 ^ 7 * c.toNat := by omega
  have hor := Nat.two_pow_add_eq_or_of_lt (b := m.toNat / 2) (i := 7) (by omega) c.toNat
  refine Prod.ext rfl (BitVec.eq_of_toNat_eq ?_)
  simp only [shiftRor, BitVec.toNat_or, BitVec.toNat_shiftLeft, BitVec.toNat_ushiftRight, BitVec.toNat_setWidth,
    BitVec.toNat_ofBool, BitVec.toNat_ofNat, Nat.shiftLeft_eq, Nat.shiftRight_eq_div_pow, pow_one, hcarry,
    Nat.lor_comm (m.toNat / 2), ← hor]
  omega

/-- Settles O29: the opcodes of each list select the read-modify-write rows of their modes, with the shift as the rules
write it. -/
theorem shiftInstructions : Obligations.ShiftInstructions := by
  refine ⟨?asl, ?lsr, ?rol, ?ror⟩
  case asl => exact everyForm_modifiesOperand (op := opAsl) (shiftOp_eq_modifyOp shiftAsl_eq setZN_eq_withZN) rfl
  case lsr => exact everyForm_modifiesOperand (op := opLsr) (shiftOp_eq_modifyOp shiftLsr_eq setZN_eq_withZN) rfl
  case rol => exact everyForm_modifiesOperand (op := opRol) (shiftOp_eq_modifyOp shiftRol_eq setZN_eq_withZN) rfl
  case ror => exact everyForm_modifiesOperand (op := opRor) (shiftOp_eq_modifyOp shiftRor_eq setZN_eq_withZN) rfl

/-- Settles O30: the opcodes of each list select the read-modify-write rows of their modes, and C keeps its value. -/
theorem incrementDecrementMemory : Obligations.IncrementDecrementMemory := by
  refine ⟨?inc, ?dec⟩
  case inc => exact everyForm_modifiesOperand (op := opInc) (stepOp_eq_modifyOp (fun _ => rfl) setZN_eq_withZN) rfl
  case dec =>
    exact everyForm_modifiesOperand (op := opDec)
      (stepOp_eq_modifyOp (fun m => (BitVec.sub_eq_add_neg m 1).symm) setZN_eq_withZN) rfl

end Sys2Proof.Machine
end

section
/-! PROOFS. Branches, calls, returns and exceptions (rules R260-R273, R493): the stack offsets of the spec, the state an
exception entry leaves, and that RTI undoes an interrupt entry but for B, `cycles` and the three bytes it pushed. -/

namespace Sys2Proof.Machine

/-! ### The stack offsets (rule R84) -/

theorem sub_one_one (sp : Byte) : sp - 1 - 1 = sp - 2 := by bv_omega

theorem sub_one_one_one (sp : Byte) : sp - 1 - 1 - 1 = sp - 3 := by bv_omega

theorem add_one_one (sp : Byte) : sp + 1 + 1 = sp + 2 := by bv_omega

theorem add_one_one_one (sp : Byte) : sp + 1 + 1 + 1 = sp + 3 := by bv_omega

/-- Fewer than 256 pushes reach different offsets. -/
theorem below_ne {s : State} {j k : Nat} (hjk : j < k) (hk : k < 256) : below s j ≠ below s k := by
  have hsp := s.cpu.sp.isLt
  simp only [below, BitVec.toNat_sub, BitVec.toNat_ofNat]
  omega

theorem below_lt (s : State) (k : Nat) : below s k < 2048 := by
  have hsp := (s.cpu.sp - BitVec.ofNat 8 k).isLt
  rw [below]
  omega

/-- After the three pushes of an exception, the pulls find the pushed bytes last first. -/
theorem above_entered (s : State) (ret : Word) (status : Byte) (vector cost : Nat) {k : Nat} (hk : k ≤ 3) :
    above (entered s ret status vector cost) k = below s (3 - k) := by
  have hsp : s.cpu.sp - 3 + BitVec.ofNat 8 k = s.cpu.sp - BitVec.ofNat 8 (3 - k) := by
    apply BitVec.eq_of_toNat_eq
    simp only [BitVec.toNat_add, BitVec.toNat_sub, BitVec.toNat_ofNat, BitVec.reduceToNat]
    omega
  rw [above, below, ← hsp]
  rfl

/-! ### Exception entry and return (rules R272, R273, R493) -/

/-- A vector below 0xFFFF is one word of program ROM (rule R86). -/
theorem vectorWord_eq_romWord (c : Cartridge) {vector : Word} (h : vector.toNat < 0xFFFF) :
    vectorWord c vector = romWord c vector.toNat := by
  have hnext : (vector + 1).toNat = vector.toNat + 1 := by bv_omega
  rw [vectorWord, romWord, hnext]

/-- Taking an exception leaves what BRK and the interrupts share, without cycles (rules R273, R493). -/
theorem takeException_entered (s : State) (ret : Word) (status : Byte) {vector : Word} (h : 0x8000 ≤ vector.toNat)
    (h' : vector.toNat < 0xFFFF) :
    takeException s ret status vector = .ok () (entered s ret status vector.toNat 0) := by
  rw [takeException_eq s ret status h (by bv_omega), vectorWord_eq_romWord s.cart h', sub_one_one_one, exceptionFrame,
    sub_one_one, ← below_zero]
  rfl

/-- An interrupt entry leaves it with 7 cycles, and the next instruction's address pushed (rule R493). -/
theorem interruptEntry_entered (s : State) {vector : Word} (h : 0x8000 ≤ vector.toNat) (h' : vector.toNat < 0xFFFF) :
    interruptEntry s vector = .ok () (entered s s.cpu.pc (interruptStatus s) vector.toNat 7) := by
  rw [interruptEntry, takeException_entered s _ _ h h', Res.bind_ok]
  rfl

/-- Bit 5 of the packed status is set, so BRK and PHP push it with bits 4 and 5 set (rules R37, R273, R291). -/
theorem pushedStatus_eq (c : Cpu) : pushedStatus c = packP c ||| 0x30 := by
  unfold pushedStatus packP
  generalize c.c = fc, c.z = fz, c.i = fi, c.d = fd, c.b = fb, c.v = fv, c.n = fn
  revert fc fz fi fd fb fv fn
  decide

/-- What an interrupt pushes differs from the packed status in bits 4 and 5 alone, which are not unpacked (rules R38,
R493). -/
theorem withStatus_interruptStatus (s : State) (c : Cpu) :
    withStatus (interruptStatus s) c = withStatus (packP s.cpu) c := by
  simp [withStatus, interruptStatus]

/-- The packed status unpacks to the flags it was packed from (rules R37, R38). -/
theorem withStatus_packP (c c' : Cpu) :
    withStatus (packP c) c' = { c' with c := c.c, z := c.z, i := c.i, d := c.d, b := false, v := c.v, n := c.n } := by
  obtain ⟨hc, hz, hi, hd, -, -, hv, hn⟩ := packP_bits c
  rw [withStatus, hc, hz, hi, hd, hv, hn]

/-- An instruction without page-crossing cycle whose mode function reads nothing is its operation after PC has passed it
(rules R126, R150). -/
theorem exec_of_row {i : Instr} {o : Operand} {s t u : State} {r : Resolved} {base n : Nat} {op : Operation}
    (ho : i.operand = o) (hrow : rowOf i = ⟨base, false, op⟩) (hmode : effective s o = .ok r s)
    (hop : op r.target (past s o) = .ok n t) (hu : t.addCycles (base + n) = u) : exec i s = .next u := by
  subst ho hu
  rw [exec_of_op_ok (resolve_of_effective hmode) (by rw [hrow]; exact hop), hrow]
  rfl

/-- RTI in every state (rule R272). -/
theorem exec_rti (s : State) : exec .rti s = .next { s with cpu := { withStatus (s.wram.read (above s 1)) s.cpu with
    sp := s.cpu.sp + 3, pc := wordOf (s.wram.read (above s 3)) (s.wram.read (above s 2)),
    cycles := s.cpu.cycles + 6 } } := by
  have hop := opRti_eq .none (past s .imp)
  rw [add_one_one_one, add_one_one] at hop
  exact exec_of_row rfl rfl rfl hop rfl

/-- BRK in every state (rule R273). -/
theorem exec_brk (s : State) :
    exec .brk s = .next (entered s (s.cpu.pc + 2) (packP s.cpu ||| 0x30) 0xFFFE 7) := by
  have hret : (past s .imp).cpu.pc + 1 = s.cpu.pc + 2 := by
    change s.cpu.pc + 1 + 1 = s.cpu.pc + 2
    bv_omega
  have hop (t : Target) : opBrk t (past s .imp) =
      .ok 0 (entered (past s .imp) (s.cpu.pc + 2) (packP s.cpu ||| 0x30) 0xFFFE 0) := by
    rw [opBrk, takeException_entered _ _ _ (by decide) (by decide), Res.bind_ok, hret, pushedStatus_eq]
    rfl
  exact exec_of_row rfl rfl rfl (hop _) rfl

/-- Settles O34: BRK takes the exception with its own status byte, RTI returns from it. -/
theorem exceptionInstructions : Obligations.ExceptionInstructions :=
  fun s => ⟨rfl, rfl, exec_brk s, exec_rti s⟩

/-- The three bytes an exception pushed lie at different offsets, and every other offset keeps its byte. -/
theorem read_entered {s : State} (hs : s.wram.wf 2048 = true) (ret : Word) (status : Byte) (vector cost : Nat) :
    let t := entered s ret status vector cost
    t.wram.read (below s 0) = hiByte ret ∧ t.wram.read (below s 1) = loByte ret ∧ t.wram.read (below s 2) = status ∧
      ∀ k, k ≠ below s 0 → k ≠ below s 1 → k ≠ below s 2 → t.wram.read k = s.wram.read k := by
  have hhi : (s.wram.write (below s 0) (hiByte ret)).wf 2048 = true := Memory.wf_write (below_lt s 0) hs
  have hlo : ((s.wram.write (below s 0) (hiByte ret)).write (below s 1) (loByte ret)).wf 2048 = true :=
    Memory.wf_write (below_lt s 1) hhi
  have h01 : below s 0 ≠ below s 1 := below_zero_ne_one s
  have h02 : below s 0 ≠ below s 2 := below_ne (by omega) (by omega)
  have h12 : below s 1 ≠ below s 2 := below_ne (by omega) (by omega)
  refine ⟨?_, ?_, ?_, fun k h0 h1 h2 => ?_⟩
  · rw [entered, Memory.read_write_other hlo h02.symm, Memory.read_write_other hhi h01.symm, Memory.read_write_same hs]
  · rw [entered, Memory.read_write_other hlo h12.symm, Memory.read_write_same hhi]
  · rw [entered, Memory.read_write_same hlo]
  · rw [entered, Memory.read_write_other hlo h2.symm, Memory.read_write_other hhi h1.symm,
      Memory.read_write_other hs h0.symm]

/-- RTI after an entry pulls the pushed status and resumes at the pushed address (rules R272, R273, R493). -/
theorem exec_rti_entered {s : State} (hs : s.wram.wf 2048 = true) (ret : Word) (status : Byte) (vector cost : Nat) :
    exec .rti (entered s ret status vector cost) = .next { s with
      wram := (entered s ret status vector cost).wram
      cpu := { withStatus status s.cpu with pc := ret, cycles := s.cpu.cycles + cost + 6 } } := by
  obtain ⟨hhi, hlo, hstatus, -⟩ := read_entered hs ret status vector cost
  have habove {k : Nat} (hk : k ≤ 3) := above_entered s ret status vector cost hk
  have hsp : (entered s ret status vector cost).cpu.sp + 3 = s.cpu.sp := BitVec.sub_add_cancel s.cpu.sp 3
  rw [exec_rti, habove (show 1 ≤ 3 by decide), habove (show 2 ≤ 3 by decide), habove (Nat.le_refl 3), hhi, hlo, hstatus,
    wordOf_halves, hsp]
  rfl

/-- Settles O45: RTI pulls the status and the address the entry pushed, and I comes back with the status. -/
theorem interruptThenReturn : Obligations.InterruptThenReturn := by
  rintro s vector ⟨hwram, -⟩ h h'
  obtain ⟨-, -, -, hother⟩ := read_entered hwram s.cpu.pc (interruptStatus s) vector.toNat 7
  refine ⟨_, _, interruptEntry_entered s h h', exec_rti_entered hwram _ _ _ _, ?_, hother, rfl⟩
  rw [withStatus_interruptStatus, withStatus_packP]

/-! ### Calls and branches (rules R260-R271) -/

/-- JSR in every state: the pushed address is that of the last of its three bytes (rule R270). -/
theorem exec_jsrAbs (s : State) (a : Word) : exec (.jsrAbs a) s = .next { s with
    wram := (s.wram.write (below s 0) (hiByte (s.cpu.pc + 2))).write (below s 1) (loByte (s.cpu.pc + 2))
    cpu := { s.cpu with sp := s.cpu.sp - 2, pc := a, cycles := s.cpu.cycles + 6 } } := by
  have hlast : (past s (.abs a)).cpu.pc - 1 = s.cpu.pc + 2 := by
    change s.cpu.pc + 3 - 1 = s.cpu.pc + 2
    bv_omega
  have hop := opJsr_eq (.mem a) (past s (.abs a))
  rw [hlast, sub_one_one] at hop
  rw [below_zero]
  exact exec_of_row rfl rfl rfl hop rfl

/-- RTS in every state (rule R271). -/
theorem exec_rts (s : State) : exec .rts s = .next { s with cpu := { s.cpu with
    sp := s.cpu.sp + 2, pc := wordOf (s.wram.read (above s 2)) (s.wram.read (above s 1)) + 1,
    cycles := s.cpu.cycles + 6 } } := by
  have hop := opRts_eq .none (past s .imp)
  rw [add_one_one] at hop
  exact exec_of_row rfl rfl rfl hop rfl

/-- Settles O33: two bytes pushed from the stack offsets of the spec, and two pulled. -/
theorem callAndReturn : Obligations.CallAndReturn :=
  fun s a => ⟨rfl, rfl, exec_jsrAbs s a, exec_rts s⟩

/-- No branch condition depends on PC (rules R261-R268). -/
theorem taken_pc (c : Cpu) (pc : Word) (i : Instr) : taken { c with pc := pc } i = taken c i := by
  cases i <;> rfl

/-- A branch in every state: PC has passed the instruction when the condition is tried (rules R150, R260). -/
theorem exec_branch {i : Instr} {d : Byte} (hd : i.operand = .rel d)
    (hrow : rowOf i = ⟨2, false, branchOp fun c => taken c i⟩) (s : State) :
    exec i s = .next (branched (taken s.cpu i) d s) := by
  have hcond : taken (past s (.rel d)).cpu i = taken s.cpu i := taken_pc s.cpu _ i
  cases ht : taken s.cpu i with
  | false => exact exec_of_row hd hrow rfl (if_neg (Bool.eq_false_iff.1 (hcond.trans ht))) rfl
  | true =>
    have hcost : 2 + (if pageDiffers (s.cpu.pc + 2) (branchTarget s d) then 2 else 1) =
        if otherPage (s.cpu.pc + 2) (branchTarget s d) then 4 else 3 := by
      rw [pageDiffers_eq]
      split_ifs <;> rfl
    rw [branched, if_pos rfl, ← hcost]
    exact exec_of_row hd hrow rfl (if_pos (hcond.trans ht)) rfl

/-- Settles O31: the eight rows are branches on their own conditions. -/
theorem branchInstructions : Obligations.BranchInstructions := by
  intro s d
  refine ⟨?bcc, ?bcs, ?beq, ?bne, ?bmi, ?bpl, ?bvc, ?bvs⟩ <;>
  exact ⟨rfl, exec_branch rfl rfl s⟩

end Sys2Proof.Machine
end

section
/-! PROOFS. The four stack and the seven flag instructions, and NOP (rules R290-R301): each operation after PC has passed
its one byte. -/

namespace Sys2Proof.Machine

/-- PHA in every state (rule R290). -/
theorem exec_pha (s : State) : exec .pha s = .next { s with
    wram := s.wram.write (below s 0) s.cpu.a
    cpu := { s.cpu with sp := s.cpu.sp - 1, pc := s.cpu.pc + 1, cycles := s.cpu.cycles + 3 } } := by
  rw [below_zero]
  exact exec_of_row rfl rfl rfl (opPha_eq .none (past s .imp)) rfl

/-- PHP in every state: PC is no part of the packed status (rule R291). -/
theorem exec_php (s : State) : exec .php s = .next { s with
    wram := s.wram.write (below s 0) (packP s.cpu ||| 0x30)
    cpu := { s.cpu with sp := s.cpu.sp - 1, pc := s.cpu.pc + 1, cycles := s.cpu.cycles + 3 } } := by
  rw [below_zero, ← pushedStatus_eq]
  exact exec_of_row rfl rfl rfl (opPhp_eq .none (past s .imp)) rfl

/-- PLA in every state (rule R292). -/
theorem exec_pla (s : State) : exec .pla s = .next { s with cpu := { cpuZN (s.wram.read (above s 1)) s.cpu with
    a := s.wram.read (above s 1), sp := s.cpu.sp + 1, pc := s.cpu.pc + 1, cycles := s.cpu.cycles + 4 } } :=
  exec_of_row rfl rfl rfl (opPla_eq .none (past s .imp)) rfl

/-- PLP in every state (rule R293). -/
theorem exec_plp (s : State) : exec .plp s = .next { s with cpu := { withStatus (s.wram.read (above s 1)) s.cpu with
    sp := s.cpu.sp + 1, pc := s.cpu.pc + 1, cycles := s.cpu.cycles + 4 } } :=
  exec_of_row rfl rfl rfl (opPlp_eq .none (past s .imp)) rfl

/-- Settles O35: two pushes and two pulls of one byte at the stack offsets of the spec. -/
theorem stackInstructions : Obligations.StackInstructions :=
  fun s => ⟨rfl, rfl, rfl, rfl, exec_pha s, exec_php s, exec_pla s, exec_plp s⟩

/-- Settles O36: each row costs 2 cycles, and each operation writes its one flag after PC has moved, NOP none. -/
theorem flagInstructions : Obligations.FlagInstructions := by
  refine ⟨?clc, ?sec, ?cli, ?sei, ?cld, ?sed, ?clv, ?nop⟩ <;>
  exact registerOnly_of_row rfl rfl rfl fun _ => rfl

end Sys2Proof.Machine
end

section
/-! PROOFS. The unofficial no-operations (rule R321), which cost what a reading instruction costs and read nothing, and
the unofficial read-modify-writes (rules R325-R330), which are shifts and steps with another effect after the write. -/

namespace Sys2Proof.Machine

/-- Every mode but the indirect one finds its target without side effect (rules R151-R163). -/
theorem resolve_of_ne_ind (s : State) {o : Operand} (h : modeOf o ≠ .ind) :
    ∃ a, resolve s o = .ok ⟨a, crosses s o⟩ (past s o) := by
  cases o with
  | ind _ => exact absurd rfl h
  | imp | acc | imm _ | rel _ => exact ⟨_, resolve_of_effective rfl⟩
  | zp _ | zpx _ | zpy _ | abs _ | absx _ | absy _ | indx _ | indy _ =>
    exact ⟨_, resolve_of_effective (effective_eq rfl)⟩

/-- The row of an unofficial no-operation by mode: a reading row without the read (rules R126, R321). -/
def unopRow (m : Mode) : Row := { readRow (fun _ s => s) m with op := opUnop }

/-- A no-operation row costs what the spec lists for a reading instruction of its mode (rules R126, R164). -/
theorem unopRow_cycles (s : State) (o : Operand) :
    (unopRow (modeOf o)).base + ((unopRow (modeOf o)).pagePenalty && crosses s o).toNat = readCost s o :=
  readRow_cycles (fun _ s => s) s o

/-- An instruction with the row of a no-operation moves PC past it and counts a reading instruction's cycles. -/
theorem exec_of_unopRow {i : Instr} (hind : modeOf i.operand ≠ .ind) (hrow : rowOf i = unopRow (modeOf i.operand))
    (s : State) : exec i s = .next ((past s i.operand).addCycles (readCost s i.operand)) := by
  obtain ⟨a, hr⟩ := resolve_of_ne_ind s hind
  rw [exec_of_op_ok hr (s2 := past s i.operand) (n := 0) (by rw [hrow]; rfl), hrow, unopRow_cycles]
  rfl

/-- Settles O37: the opcodes select the no-operation rows of their modes, none of which is the indirect one. -/
theorem unofficialNop : Obligations.UnofficialNop := by
  intro i hi
  obtain ⟨hform, hrow⟩ :=
    everyForm_of_rows (P := fun i => rowOf i = unopRow (modeOf i.operand)) (fun _ h => h) rfl i hi
  refine ⟨hform, exec_of_unopRow (fun hind => ?_) hrow⟩
  rw [hind] at hform
  simp at hform

/-- The shared comparator is the one rule R217 writes. -/
theorem compare_eq_withCompare (s : State) (r m : Byte) : compare s r m = withCompare r m s := rfl

/-- Settles O38: the opcodes of each list select the read-modify-write rows of their modes, with the step or shift of
the official instruction and the effect on A as the rules write it. -/
theorem unofficialReadModifyWrite : Obligations.UnofficialReadModifyWrite := by
  refine ⟨?dcp, ?isb, ?slo, ?rla, ?sre, ?rra⟩
  case dcp =>
    exact everyForm_modifiesOperand (op := opDcp)
      (stepOp_eq_modifyOp (fun m => (BitVec.sub_eq_add_neg m 1).symm) fun s r => compare_eq_withCompare s s.cpu.a r) rfl
  case isb =>
    exact everyForm_modifiesOperand (op := opIsb)
      (stepOp_eq_modifyOp (fun _ => rfl) fun s r => addWithCarry_eq_withSum (r ^^^ 0xFF) s) rfl
  case slo => exact everyForm_modifiesOperand (op := opSlo) (shiftOp_eq_modifyOp shiftAsl_eq fun _ _ => rfl) rfl
  case rla => exact everyForm_modifiesOperand (op := opRla) (shiftOp_eq_modifyOp shiftRol_eq fun _ _ => rfl) rfl
  case sre => exact everyForm_modifiesOperand (op := opSre) (shiftOp_eq_modifyOp shiftLsr_eq fun _ _ => rfl) rfl
  case rra =>
    exact everyForm_modifiesOperand (op := opRra)
      (shiftOp_eq_modifyOp shiftRor_eq fun s r => addWithCarry_eq_withSum r s) rfl

end Sys2Proof.Machine
end

section
/-! PROOFS. The picture engine's registers as the CPU reads and writes them (rules R350-R368): the effect of one access
through any mirror, the two-write ports bit by bit. -/

namespace Sys2Proof.Machine

/-- A read of a picture register through any mirror (rules R74, R350). -/
theorem memRead_pictureReg {s : State} {a : Word} {r : Nat} (h : pictureReg a r) :
    memRead s a = .ok (ppuRegRead s r).1 (ppuRegRead s r).2 := by
  obtain ⟨hlow, hhigh, hreg⟩ := h
  rw [memRead_picture hlow hhigh, hreg]

/-- A write to a picture register through any mirror (rules R74, R350). -/
theorem memWrite_pictureReg {s : State} {a : Word} {r : Nat} {v : Byte} (h : pictureReg a r) :
    memWrite s a v = ppuRegWrite s r v := by
  obtain ⟨hlow, hhigh, hreg⟩ := h
  rw [memWrite_picture hlow hhigh, hreg]

/-- The bits of the status byte (rule R357). -/
theorem statusByte_bits (s : State) :
    (statusByte s).getLsbD 7 = s.ppu.vblank ∧ (statusByte s).getLsbD 6 = s.ppu.sprite0Hit ∧
      (statusByte s).getLsbD 5 = s.ppu.spriteOverflow ∧
      ∀ k, k < 5 → (statusByte s).getLsbD k = s.params.ppuOpenBus.getLsbD k := by
  have hflags : ∀ a b c : Bool, (BitVec.ofBool a ++ BitVec.ofBool b ++ BitVec.ofBool c).getLsbD 2 = a ∧
      (BitVec.ofBool a ++ BitVec.ofBool b ++ BitVec.ofBool c).getLsbD 1 = b ∧
      (BitVec.ofBool a ++ BitVec.ofBool b ++ BitVec.ofBool c).getLsbD 0 = c := by decide
  obtain ⟨hvblank, hhit, hoverflow⟩ := hflags s.ppu.vblank s.ppu.sprite0Hit s.ppu.spriteOverflow
  refine ⟨?_, ?_, ?_, fun k hk => ?_⟩ <;> rw [statusByte, BitVec.getLsbD_append]
  · exact hvblank
  · exact hhit
  · exact hoverflow
  · simp [hk]

/-- Settles O17: the status byte as it was, and the registers without a read (rules R357, R358, R367). -/
theorem statusRegister : Obligations.StatusRegister := by
  intro s a
  constructor
  · intro h
    obtain ⟨hvblank, hhit, hoverflow, hopen⟩ := statusByte_bits s
    exact ⟨statusByte s, memRead_pictureReg h, hvblank, hhit, hoverflow, hopen, fun _ => memWrite_pictureReg h⟩
  · rintro (h | h | h | h | h) <;> exact memRead_pictureReg h

/-- `t` after a write to 0x2000: the name-table bits come from the byte (rule R354). -/
theorem writeCtrl_t_bits (s : State) (v : Byte) {k : Nat} (hk : k < 15) :
    (writeCtrl s v).ppu.t.getLsbD k = if k = 10 ∨ k = 11 then v.getLsbD (k - 10) else s.ppu.t.getLsbD k := by
  change ((s.ppu.t &&& ~~~0x0C00#15) ||| ((v &&& 0x03).setWidth 15 <<< 10)).getLsbD k = _
  interval_cases k <;> simp

/-- Settles O18: the two registers' writes, the name-table bits of `t` one by one. -/
theorem controlAndMask : Obligations.ControlAndMask := by
  intro s a v
  constructor
  · intro h
    exact ⟨writeCtrl s v, memWrite_pictureReg h, rfl, fun k hk => writeCtrl_t_bits s v hk⟩
  · exact fun h => memWrite_pictureReg h

/-- Settles O19: a write to sprite memory is a write to one store. -/
theorem oamPort : Obligations.OamPort := by
  intro s a v
  refine ⟨fun h => memWrite_pictureReg h, fun h hs => ?_, fun h => memRead_pictureReg h⟩
  refine ⟨writeOamData s v, memWrite_pictureReg h, Memory.read_write_same hs.oam, fun k hk => ?_, rfl⟩
  exact Memory.read_write_other hs.oam hk.symm

/-- The first write to the scroll port: coarse X into `t` (rule R362). -/
theorem scrollFirst_bits (t : BitVec 15) (v : Byte) {k : Nat} (hk : k < 15) :
    ((t &&& ~~~0x001F#15) ||| (v >>> 3).setWidth 15).getLsbD k = if k < 5 then v.getLsbD (k + 3) else t.getLsbD k := by
  interval_cases k <;> simp

/-- The second write to the scroll port: fine and coarse Y into `t` (rule R362). -/
theorem scrollSecond_bits (t : BitVec 15) (v : Byte) {k : Nat} (hk : k < 15) :
    ((t &&& ~~~0x73E0#15) ||| ((v &&& 0x07).setWidth 15 <<< 12) ||| ((v >>> 3).setWidth 15 <<< 5)).getLsbD k =
      if 12 ≤ k then v.getLsbD (k - 12) else if 5 ≤ k ∧ k < 10 then v.getLsbD (k - 2) else t.getLsbD k := by
  interval_cases k <;> simp

/-- The first write to the address port: the high bits of `t`, bit 14 cleared (rule R363). -/
theorem addrFirst_bits (t : BitVec 15) (v : Byte) {k : Nat} (hk : k < 15) :
    ((t &&& 0x00FF) ||| ((v &&& 0x3F).setWidth 15 <<< 8)).getLsbD k =
      if k = 14 then false else if 8 ≤ k then v.getLsbD (k - 8) else t.getLsbD k := by
  interval_cases k <;> simp

/-- The second write to the address port: the low bits of `t` (rule R363). -/
theorem addrSecond_bits (t : BitVec 15) (v : Byte) {k : Nat} (hk : k < 15) :
    ((t &&& 0x7F00) ||| v.setWidth 15).getLsbD k = if k < 8 then v.getLsbD k else t.getLsbD k := by
  interval_cases k <;> simp

/-- Settles O20: each port has two writes, told apart by the toggle. -/
theorem scrollAddressPorts : Obligations.ScrollAddressPorts := by
  intro s a v
  refine ⟨fun h hw => ?scrollFirst, fun h hw => ?scrollSecond, fun h hw => ?addrFirst, fun h hw => ?addrSecond⟩
  case scrollFirst =>
    refine ⟨_, (memWrite_pictureReg h).trans (congrArg (Res.ok ()) ?_), fun k => scrollFirst_bits s.ppu.t v⟩
    rw [writeScroll, hw]
    rfl
  case scrollSecond =>
    refine ⟨_, (memWrite_pictureReg h).trans (congrArg (Res.ok ()) ?_), fun k => scrollSecond_bits s.ppu.t v⟩
    rw [writeScroll, hw]
    rfl
  case addrFirst =>
    refine ⟨_, (memWrite_pictureReg h).trans (congrArg (Res.ok ()) ?_), fun k => addrFirst_bits s.ppu.t v⟩
    rw [writeAddr, hw]
    rfl
  case addrSecond =>
    refine ⟨_, (memWrite_pictureReg h).trans (congrArg (Res.ok ()) ?_), fun k => addrSecond_bits s.ppu.t v⟩
    rw [writeAddr, hw]
    rfl

/-- A write through the picture bus leaves the data port's increment alone (rules R92, R366). -/
theorem ppuWrite_dataPortNext {s t : State} {a : Nat} {v : Byte} {x : Unit} (h : ppuWrite s a v = .ok x t) :
    dataPortNext t.ppu = dataPortNext s.ppu := by
  unfold ppuWrite at h
  dsimp only at h
  split_ifs at h <;> (cases h; rfl)

/-- Settles O21: the two reads by where `v` points, a write through the picture bus. -/
theorem dataPort : Obligations.DataPort := by
  intro s a h
  have hread : memRead s a = .ok (readData s).1 (readData s).2 := memRead_pictureReg h
  have hwrite (v : Byte) : memWrite s a v = writeData s v := memWrite_pictureReg h
  refine ⟨fun hv => ?below, fun hv => ?palette, fun v t ht => ?write, fun v f t ht => ?fatal⟩
  case below => rw [hread, readData_below hv]; rfl
  case palette => rw [hread, readData_palette (Nat.not_lt.2 hv)]; rfl
  case write => rw [hwrite, writeData, ht, Res.bind_ok, ppuWrite_dataPortNext ht]; rfl
  case fatal => rw [hwrite, writeData, ht, Res.bind_fatal]

end Sys2Proof.Machine
end

section
/-! PROOFS. The counters of the picture engine (rules R401, R547): one equation for a tick's counters, and the position
after any number of ticks of a frame. -/

namespace Sys2Proof.Machine

/-- The scanline, the dot and the frame parity (rule R52). -/
def counters (p : Ppu) : Nat × Nat × Bool := (p.scanline, p.dot, p.oddFrame)

/-- The counters one tick on (rule R401); `skip` is whether the skip is allowed. -/
def nextCounters (skip : Bool) : Nat × Nat × Bool → Nat × Nat × Bool
  | (line, dot, odd) =>
    if line = 261 ∧ dot = 339 ∧ odd = true ∧ skip = true then (0, 0, false)
    else if dot ≠ 340 then (line, dot + 1, odd)
    else if line ≠ 261 then (line + 1, 0, odd)
    else (0, 0, !odd)

theorem advance_counters_eq (s : State) :
    counters (advance s).ppu = nextCounters (skipAllowed s) (counters s.ppu) := by
  have hcond : (s.ppu.scanline == 261 && s.ppu.dot == 339 && s.ppu.oddFrame && skipAllowed s) = true ↔
      s.ppu.scanline = 261 ∧ s.ppu.dot = 339 ∧ s.ppu.oddFrame = true ∧ skipAllowed s = true := by
    simp [and_assoc]
  have hnext : nextCounters (skipAllowed s) (counters s.ppu) = nextCounters (skipAllowed s)
      (s.ppu.scanline, s.ppu.dot, s.ppu.oddFrame) := rfl
  unfold advance
  dsimp only
  split_ifs with hskip hdot hline <;> rw [hnext, nextCounters]
  · rw [if_pos (hcond.1 hskip)]
    rfl
  · rw [if_neg (mt hcond.2 hskip), if_pos (by simpa using hdot)]
    rfl
  · rw [if_neg (mt hcond.2 hskip), if_neg (by simpa using hdot), if_pos (by simpa using hline)]
    rfl
  · rw [if_neg (mt hcond.2 hskip), if_neg (by simpa using hdot), if_neg (by simpa using hline)]
    rfl

/-- What decides about the skip does not change within a tick's work. -/
theorem skipAllowed_congr {s t : State} (hparams : t.params = s.params) (hmask : t.ppu.mask = s.ppu.mask) :
    skipAllowed t = skipAllowed s := by
  rw [skipAllowed, skipAllowed, renderingEnabled, renderingEnabled, hparams, hmask]

/-- The counters after one tick (rules R400, R401). -/
theorem ppuTick_counters (s : State) :
    counters (ppuTick s).ppu = nextCounters (skipAllowed s) (counters s.ppu) := by
  have f := dotWork_frame s
  have hcounters : counters (dotWork s).ppu = counters s.ppu := by
    rw [counters, counters, f.scanline, f.dot, f.oddFrame]
  rw [ppuTick, advance_counters_eq, hcounters, skipAllowed_congr f.params f.mask]

/-- The skip's parameter or the mask allows it (rule R401), as the obligations write it. -/
theorem skipAllowed_iff (s : State) :
    skipAllowed s = true ↔
      s.params.oddFrameSkip = .always ∨ s.ppu.mask.getLsbD 3 = true ∨ s.ppu.mask.getLsbD 4 = true := by
  simp [skipAllowed, renderingEnabled]

theorem skips_iff (s : State) :
    skips s ↔ s.ppu.scanline = 261 ∧ s.ppu.dot = 339 ∧ s.ppu.oddFrame = true ∧ skipAllowed s = true := by
  rw [skipAllowed_iff, skips]

/-- Counters that are equal are equal one by one. -/
theorem counters_eq_iff {p : Ppu} {line dot : Nat} {odd : Bool} :
    counters p = (line, dot, odd) ↔ p.scanline = line ∧ p.dot = dot ∧ p.oddFrame = odd := by
  simp [counters]

/-- Settles O46: the four branches of the counter rule. -/
theorem counterAdvance : Obligations.CounterAdvance := by
  intro s hline hdot
  have htick := ppuTick_counters s
  rw [show counters s.ppu = (s.ppu.scanline, s.ppu.dot, s.ppu.oddFrame) from rfl, nextCounters] at htick
  refine ⟨fun h => ?skipped, fun h hlt => ?nextDot, fun heq hlt => ?nextLine, fun heq hlast => ?nextFrame⟩
  case skipped =>
    rw [if_pos ((skips_iff s).1 h)] at htick
    exact counters_eq_iff.1 htick
  case nextDot =>
    rw [if_neg (mt (skips_iff s).2 h), if_pos (by omega)] at htick
    exact counters_eq_iff.1 htick
  case nextLine =>
    rw [if_neg (by omega), if_neg (by omega), if_pos (by omega)] at htick
    exact counters_eq_iff.1 htick
  case nextFrame =>
    rw [if_neg (by omega), if_neg (by omega), if_neg (by omega)] at htick
    exact counters_eq_iff.1 htick

/-- The last of the ticks. -/
theorem ppuTicks_succ (n : Nat) (s : State) : ppuTicks (n + 1) s = ppuTick (ppuTicks n s) := by
  induction n generalizing s with
  | zero => rfl
  | succ n ih => exact ih (ppuTick s)

theorem ppuTicks_skipAllowed (n : Nat) (s : State) : skipAllowed (ppuTicks n s) = skipAllowed s :=
  skipAllowed_congr (ppuTicks_frame n s).params (ppuTicks_frame n s).mask

theorem ppuTicks_counters_succ (n : Nat) (s : State) :
    counters (ppuTicks (n + 1) s).ppu = nextCounters (skipAllowed s) (counters (ppuTicks n s).ppu) := by
  rw [ppuTicks_succ, ppuTick_counters, ppuTicks_skipAllowed]

/-- From the start of a frame the dots run through its lines of 341, up to the last dot of the frame or, where it is
skipped, the one before (rule R401). -/
theorem ppuTicks_counters {s : State} (hline : s.ppu.scanline = 0) (hdot : s.ppu.dot = 0) {n : Nat} (hn : n ≤ 89341)
    (hskip : s.ppu.oddFrame = true ∧ skipAllowed s = true → n ≤ 89340) :
    counters (ppuTicks n s).ppu = (n / 341, n % 341, s.ppu.oddFrame) := by
  induction n with
  | zero => exact counters_eq_iff.2 ⟨hline, hdot, rfl⟩
  | succ n ih =>
    have hbefore : ¬ (n / 341 = 261 ∧ n % 341 = 339 ∧ s.ppu.oddFrame = true ∧ skipAllowed s = true) := by
      rintro ⟨h261, h339, hodd⟩
      have := hskip hodd
      omega
    rw [ppuTicks_counters_succ, ih (by omega) fun h => by have := hskip h; omega, nextCounters, if_neg hbefore]
    by_cases h340 : n % 341 = 340
    · rw [if_neg (not_not.2 h340), if_pos (by omega)]
      exact Prod.ext (by dsimp only; omega) (Prod.ext (by dsimp only; omega) rfl)
    · rw [if_pos h340]
      exact Prod.ext (by dsimp only; omega) (Prod.ext (by dsimp only; omega) rfl)

/-- Settles O47: the position after `k` ticks is (0, 0) again only after the tick that ends the frame. -/
theorem frameLength : Obligations.FrameLength := by
  intro s hline hdot short n hshort hlong
  have hiff : short ↔ s.ppu.oddFrame = true ∧ skipAllowed s = true := by rw [skipAllowed_iff]
  have hn : n = 89341 ∧ short ∨ n = 89342 ∧ ¬ short := by
    by_cases h : short
    · exact .inl ⟨hshort h, h⟩
    · exact .inr ⟨hlong h, h⟩
  have hpos {k : Nat} (hk : k < n) : counters (ppuTicks k s).ppu = (k / 341, k % 341, s.ppu.oddFrame) := by
    refine ppuTicks_counters hline hdot (by omega) fun h => ?_
    have := hshort (hiff.2 h)
    omega
  have hlast : counters (ppuTicks n s).ppu = (0, 0, !s.ppu.oddFrame) := by
    rcases hn with ⟨rfl, h⟩ | ⟨rfl, -⟩
    · obtain ⟨hodd, hskip⟩ := hiff.1 h
      rw [ppuTicks_counters_succ 89340, hpos (by decide), hskip, hodd]
      rfl
    · rw [ppuTicks_counters_succ 89341, hpos (by decide)]
      rfl
  obtain ⟨hline', hdot', hodd'⟩ := counters_eq_iff.1 hlast
  refine ⟨hline', hdot', hodd', fun k hk hkn => ?_⟩
  obtain ⟨hkline, hkdot, -⟩ := counters_eq_iff.1 (hpos hkn)
  rw [hkline, hkdot]
  omega

end Sys2Proof.Machine
end

section
/-! PROOFS. What each stage of a dot writes (rule R403), said for every function of the state that does not look at
these fields: the stage keeps its value. A tick then leaves of a stage's fields what that stage left. -/

namespace Sys2Proof.Machine

section
variable {β : Type} {g : State → β}

theorem shiftStage_keeps (hg : ∀ (t : State) bgLo bgHi atLo atHi,
    g (t.setPpu { t.ppu with bgLo := bgLo, bgHi := bgHi, atLo := atLo, atHi := atHi }) = g t) (s : State) :
    g (shiftStage s) = g s := by
  unfold shiftStage
  split_ifs
  · exact hg s _ _ _ _
  · rfl

theorem pixelStage_keeps (hg : ∀ (t : State) frame hit,
    g (t.setPpu { t.ppu with frame := frame, sprite0Hit := hit }) = g t) (s : State) : g (pixelStage s) = g s := by
  unfold pixelStage
  split_ifs
  · exact hg s _ _
  · rfl

theorem reloadStage_keeps (hg : ∀ (t : State) bgLo bgHi atLatchLo atLatchHi,
    g (t.setPpu { t.ppu with bgLo := bgLo, bgHi := bgHi, atLatchLo := atLatchLo, atLatchHi := atLatchHi }) = g t)
    (s : State) : g (reloadStage s) = g s := by
  unfold reloadStage
  split_ifs
  · exact hg s _ _ _ _
  · rfl

theorem fetchStage_keeps (hg : ∀ (t : State) nt bits lo hi,
    g (t.setPpu { t.ppu with ntLatch := nt, atBits := bits, ptLoLatch := lo, ptHiLatch := hi }) = g t) (s : State) :
    g (fetchStage s) = g s := by
  unfold fetchStage backgroundFetch
  split_ifs
  · dsimp only
    split <;> exact hg s _ _ _ _
  · rfl

theorem scrollStage_keeps (hg : ∀ (t : State) v, g (t.setPpu { t.ppu with v := v }) = g t) (s : State) :
    g (scrollStage s) = g s := by
  unfold scrollStage
  split_ifs
  · exact hg s _
  · rfl

theorem spriteStage_keeps (hg : ∀ (t : State) secondary units overflow,
    g (t.setPpu { t.ppu with secondary := secondary, units := units, spriteOverflow := overflow }) = g t) (s : State) :
    g (spriteStage s) = g s := by
  unfold spriteStage spriteWork evaluateSprites
  split_ifs
  case neg => rfl
  all_goals exact hg s _ _ _

theorem statusStage_keeps (hg : ∀ (t : State) vblank hit overflow nmi host,
    g { t with
      ppu := { t.ppu with vblank := vblank, sprite0Hit := hit, spriteOverflow := overflow }
      nmiPending := nmi, host := host } = g t) (s : State) : g (statusStage s) = g s := by
  unfold statusStage vblankStart
  split_ifs
  · exact hg s _ _ _ _ _
  · exact hg s _ _ _ _ _
  · rfl

theorem advance_keeps (hg : ∀ (t : State) scanline dot odd ticks,
    g (t.setPpu { t.ppu with scanline := scanline, dot := dot, oddFrame := odd, ticks := ticks }) = g t) (s : State) :
    g (advance s) = g s := by
  unfold advance
  dsimp only
  split_ifs <;> exact hg s _ _ _ _

/-- The dot's work up to the background fetch's turn (rule R403). -/
def beforeFetch (s : State) : State := reloadStage (pixelStage (shiftStage s))

/-- Shift, pixel output and reload write the shift registers, the AT latches, the frame and the hit flag. -/
theorem beforeFetch_keeps (hg : ∀ (t : State) bgLo bgHi atLo atHi atLatchLo atLatchHi frame hit,
    g (t.setPpu { t.ppu with
      bgLo := bgLo, bgHi := bgHi, atLo := atLo, atHi := atHi, atLatchLo := atLatchLo, atLatchHi := atLatchHi
      frame := frame, sprite0Hit := hit }) = g t) (s : State) : g (beforeFetch s) = g s :=
  calc g (beforeFetch s)
      = g (pixelStage (shiftStage s)) :=
        reloadStage_keeps (fun t lo hi latchLo latchHi => hg t lo hi t.ppu.atLo t.ppu.atHi latchLo latchHi _ _) _
    _ = g (shiftStage s) := pixelStage_keeps (fun t => hg t _ _ _ _ _ _) _
    _ = g s := shiftStage_keeps (fun t lo hi atLo atHi => hg t lo hi atLo atHi _ _ _ _) s

/-- Background fetch and scroll updates write the four latches and `v`. -/
theorem beforeSprites_keeps (hg : ∀ (t : State) nt bits lo hi v,
    g (t.setPpu { t.ppu with ntLatch := nt, atBits := bits, ptLoLatch := lo, ptHiLatch := hi, v := v }) = g t)
    (s : State) : g (beforeSprites s) = g (beforeFetch s) :=
  (scrollStage_keeps (fun t => hg t _ _ _ _) _).trans (fetchStage_keeps (fun t nt bits lo hi => hg t nt bits lo hi _) _)

/-- After that a tick writes the sprite lists, the flags, the counters and the host's side. -/
theorem ppuTick_keeps (hg : ∀ (t : State) secondary units overflow hit vblank nmi host scanline dot odd ticks,
    g { t with
      ppu := { t.ppu with
        secondary := secondary, units := units, spriteOverflow := overflow, sprite0Hit := hit, vblank := vblank
        scanline := scanline, dot := dot, oddFrame := odd, ticks := ticks }
      nmiPending := nmi, host := host } = g t) (s : State) : g (ppuTick s) = g (beforeSprites s) :=
  calc g (ppuTick s)
      = g (dotWork s) := advance_keeps (fun t => hg t _ _ _ _ _ _ _) _
    _ = g (spriteStage (beforeSprites s)) :=
        statusStage_keeps (fun t vblank hit overflow nmi host => hg t _ _ overflow hit vblank nmi host _ _ _ _) _
    _ = g (beforeSprites s) := spriteStage_keeps (fun t sec units overflow => hg t sec units overflow _ _ _ _ _ _ _ _) _

end

theorem beforeFetch_frame (s : State) : DotFrame s (beforeFetch s) :=
  ((shiftStage_frame s).trans (pixelStage_frame _)).trans (reloadStage_frame _)

end Sys2Proof.Machine
end

section
/-! PROOFS. The status events (rules R440-R442) and what no tick touches (rules R467, R468). -/

namespace Sys2Proof.Machine

/-- The dot's work up to the status events' turn (rule R403). -/
def beforeStatus (s : State) : State := spriteStage (beforeSprites s)

theorem ppuTick_eq (s : State) : ppuTick s = advance (statusStage (beforeStatus s)) := rfl

theorem beforeStatus_frame (s : State) : DotFrame s (beforeStatus s) :=
  (beforeSprites_frame s).trans (spriteStage_frame _)

/-- What the status events alone write: the pending NMI, the host's side and vblank (rules R440-R442). -/
def eventFields (s : State) : Bool × HostPort × Bool := (s.nmiPending, s.host, s.ppu.vblank)

theorem beforeStatus_eventFields (s : State) : eventFields (beforeStatus s) = eventFields s :=
  calc eventFields (beforeStatus s)
      = eventFields (beforeSprites s) := spriteStage_keeps (fun _ _ _ _ => rfl) _
    _ = eventFields (beforeFetch s) := beforeSprites_keeps (fun _ _ _ _ _ _ => rfl) s
    _ = eventFields s := beforeFetch_keeps (fun _ _ _ _ _ _ _ _ _ => rfl) s

/-- What a dot's pixel output writes (rules R430, R434). -/
def pixelFields (s : State) : Frame × Bool := (s.ppu.frame, s.ppu.sprite0Hit)

/-- What the dot's pixel output has written is still there at the status events' turn. -/
theorem beforeStatus_pixelFields (s : State) : pixelFields (beforeStatus s) = pixelFields (pixelStage (shiftStage s)) :=
  calc pixelFields (beforeStatus s)
      = pixelFields (beforeSprites s) := spriteStage_keeps (fun _ _ _ _ => rfl) _
    _ = pixelFields (beforeFetch s) := beforeSprites_keeps (fun _ _ _ _ _ _ => rfl) s
    _ = pixelFields (pixelStage (shiftStage s)) := reloadStage_keeps (fun _ _ _ _ _ => rfl) _

theorem shiftStage_pixelFields (s : State) : pixelFields (shiftStage s) = pixelFields s :=
  shiftStage_keeps (fun _ _ _ _ _ => rfl) s

theorem beforeSprites_overflow (s : State) : (beforeSprites s).ppu.spriteOverflow = s.ppu.spriteOverflow :=
  (beforeSprites_keeps (g := fun t => t.ppu.spriteOverflow) (fun _ _ _ _ _ _ => rfl) s).trans
    (beforeFetch_keeps (g := fun t => t.ppu.spriteOverflow) (fun _ _ _ _ _ _ _ _ _ => rfl) s)

/-- Vblank begins at dot (241, 1) (rule R440). -/
theorem statusStage_vblank {s : State} (hline : s.ppu.scanline = 241) (hdot : s.ppu.dot = 1) :
    statusStage s = vblankStart s := by
  simp [statusStage, hline, hdot]

/-- The flags are cleared at dot (261, 1) (rule R441). -/
theorem statusStage_clear {s : State} (hline : s.ppu.scanline = 261) (hdot : s.ppu.dot = 1) :
    statusStage s = s.setPpu { s.ppu with vblank := false, sprite0Hit := false, spriteOverflow := false } := by
  simp [statusStage, hline, hdot]

/-- At every other dot there is no status event. -/
theorem statusStage_quiet {s : State} (hset : ¬ (s.ppu.scanline = 241 ∧ s.ppu.dot = 1))
    (hclear : ¬ (s.ppu.scanline = 261 ∧ s.ppu.dot = 1)) : statusStage s = s := by
  simp [statusStage, hset, hclear]

/-- A pixel is put out at dots 1-256 of the visible lines only (rule R402). -/
theorem pixelStage_idle {s : State} (h : ¬ (s.ppu.scanline < 240 ∧ 1 ≤ s.ppu.dot ∧ s.ppu.dot ≤ 256)) :
    pixelStage s = s := by
  simp only [pixelStage, visibleLine, dotIn, Bool.and_eq_true, decide_eq_true_eq]
  exact if_neg h

/-- The hit flag is not cleared by pixel output (rule R434). -/
theorem pixelStage_hit_of_hit {s : State} (h : s.ppu.sprite0Hit = true) : (pixelStage s).ppu.sprite0Hit = true := by
  unfold pixelStage
  split_ifs
  · simp [outputPixel, h]
  · exact h

/-- The overflow flag is not cleared by the sprite work (rule R422). -/
theorem spriteStage_overflow_of_overflow {s : State} (h : s.ppu.spriteOverflow = true) :
    (spriteStage s).ppu.spriteOverflow = true := by
  unfold spriteStage spriteWork
  split_ifs
  · exact h
  · exact h
  · exact h
  · simp [evaluateSprites, h]
  · exact h
  · exact h
  · exact h

/-- Before the status events' turn no flag is cleared. -/
theorem beforeStatus_flags (s : State) :
    (s.ppu.sprite0Hit = true → (beforeStatus s).ppu.sprite0Hit = true) ∧
      (s.ppu.spriteOverflow = true → (beforeStatus s).ppu.spriteOverflow = true) := by
  refine ⟨fun h => ?_, fun h => ?_⟩
  · have hshift : (shiftStage s).ppu.sprite0Hit = s.ppu.sprite0Hit := congrArg Prod.snd (shiftStage_pixelFields s)
    exact (congrArg Prod.snd (beforeStatus_pixelFields s)).trans (pixelStage_hit_of_hit (hshift.trans h))
  · exact spriteStage_overflow_of_overflow ((beforeSprites_overflow s).trans h)

/-- Advancing touches no flag of the picture engine, nor the frame, nor anything outside it (rule R401). -/
theorem advance_eventFields (s : State) : eventFields (advance s) = eventFields s :=
  advance_keeps (fun _ _ _ _ _ => rfl) s

theorem advance_pixelFields (s : State) : pixelFields (advance s) = pixelFields s :=
  advance_keeps (fun _ _ _ _ _ => rfl) s

theorem advance_overflow (s : State) : (advance s).ppu.spriteOverflow = s.ppu.spriteOverflow :=
  advance_keeps (g := fun t => t.ppu.spriteOverflow) (fun _ _ _ _ _ => rfl) s

/-- A tick with the begin of vblank (rules R440, R442). -/
theorem ppuTick_vblank {s : State} (hline : s.ppu.scanline = 241) (hdot : s.ppu.dot = 1) :
    ppuTick s = advance (vblankStart (beforeStatus s)) := by
  have f := beforeStatus_frame s
  rw [ppuTick_eq, statusStage_vblank (f.scanline.trans hline) (f.dot.trans hdot)]

/-- A tick that clears the flags (rule R441). -/
theorem ppuTick_clear {s : State} (hline : s.ppu.scanline = 261) (hdot : s.ppu.dot = 1) :
    ppuTick s = advance ((beforeStatus s).setPpu { (beforeStatus s).ppu with
      vblank := false, sprite0Hit := false, spriteOverflow := false }) := by
  have f := beforeStatus_frame s
  rw [ppuTick_eq, statusStage_clear (f.scanline.trans hline) (f.dot.trans hdot)]

/-- A tick without a status event. -/
theorem ppuTick_quiet {s : State} (hset : ¬ (s.ppu.scanline = 241 ∧ s.ppu.dot = 1))
    (hclear : ¬ (s.ppu.scanline = 261 ∧ s.ppu.dot = 1)) : ppuTick s = advance (beforeStatus s) := by
  have f := beforeStatus_frame s
  rw [ppuTick_eq, statusStage_quiet (by rwa [f.scanline, f.dot]) (by rwa [f.scanline, f.dot])]

/-- Outside the visible dots nothing is put out. -/
theorem beforeStatus_pixelFields_idle {s : State}
    (h : ¬ (s.ppu.scanline < 240 ∧ 1 ≤ s.ppu.dot ∧ s.ppu.dot ≤ 256)) :
    pixelFields (beforeStatus s) = pixelFields s := by
  have f := shiftStage_frame s
  rw [beforeStatus_pixelFields, pixelStage_idle (by rwa [f.scanline, f.dot]), shiftStage_pixelFields]

/-- The parts of `eventFields` and `pixelFields`. -/
theorem eventFields_eq_iff {s t : State} : eventFields s = eventFields t ↔
    s.nmiPending = t.nmiPending ∧ s.host = t.host ∧ s.ppu.vblank = t.ppu.vblank := by
  simp [eventFields]

theorem pixelFields_eq_iff {s t : State} : pixelFields s = pixelFields t ↔
    s.ppu.frame = t.ppu.frame ∧ s.ppu.sprite0Hit = t.ppu.sprite0Hit := by
  simp [pixelFields]

/-- A tick changes the picture engine, the pending NMI and the host's side only (rules R467, R468). -/
theorem ppuTick_outside (s : State) : ppuTick s = { s with
    ppu := (ppuTick s).ppu, nmiPending := (ppuTick s).nmiPending, host := (ppuTick s).host } := by
  have f := ppuTick_frame s
  rw [← f.cpu, ← f.wram, ← f.sram, ← f.fault, ← f.cart, ← f.params]

/-- Settles O48: the three kinds of dots by their status event, the rest by the frame of a tick. -/
theorem statusEvents : Obligations.StatusEvents := by
  intro s
  have f := ppuTick_frame s
  obtain ⟨hnmi, hhost, hvblank⟩ := eventFields_eq_iff.1 (beforeStatus_eventFields s)
  obtain ⟨hhit, hoverflow⟩ := beforeStatus_flags s
  refine ⟨fun hline hdot => ?begins, fun hline hdot => ?ends, fun hset => ?others, ppuTick_outside s, f.ctrl, f.mask,
    f.oamAddr, f.readBuffer, f.oam, f.palette, f.nametable⟩
  case begins =>
    obtain ⟨hframe, -⟩ := pixelFields_eq_iff.1 (beforeStatus_pixelFields_idle (s := s) (by omega))
    have hctrl := (beforeStatus_frame s).ctrl
    rw [ppuTick_vblank hline hdot]
    generalize beforeStatus s = u at *
    obtain ⟨hnmi', hhost', hvblank'⟩ := eventFields_eq_iff.1 (advance_eventFields (vblankStart u))
    obtain ⟨hframe', -⟩ := pixelFields_eq_iff.1 (advance_pixelFields (vblankStart u))
    rw [hvblank', hframe', hnmi', hhost', ← hnmi, ← hhost, ← hframe, ← hctrl]
    exact ⟨rfl, rfl, rfl, rfl⟩
  case ends =>
    rw [ppuTick_clear hline hdot]
    generalize beforeStatus s = u
    exact ⟨congrArg (fun e => e.2.2) (advance_eventFields _), congrArg Prod.snd (advance_pixelFields _),
      advance_overflow _⟩
  case others =>
    by_cases hclear : s.ppu.scanline = 261 ∧ s.ppu.dot = 1
    · obtain ⟨hline, hdot⟩ := hclear
      rw [ppuTick_clear hline hdot, ← hnmi, ← hhost]
      generalize beforeStatus s = u
      exact ⟨congrArg (fun e => e.1) (advance_eventFields _), congrArg (fun e => e.2.1) (advance_eventFields _),
        fun h => absurd ⟨hline, hdot⟩ h⟩
    · obtain ⟨hnmi', hhost', hvblank'⟩ := eventFields_eq_iff.1 (advance_eventFields (beforeStatus s))
      obtain ⟨-, hhit'⟩ := pixelFields_eq_iff.1 (advance_pixelFields (beforeStatus s))
      rw [ppuTick_quiet hset hclear, hvblank', hhit', advance_overflow, hnmi', hhost']
      exact ⟨hnmi, hhost, fun _ => ⟨hvblank, hhit, hoverflow⟩⟩

end Sys2Proof.Machine
end

section
/-! PROOFS. Sprite evaluation (rules R420-R422): the loop selects from the sprites of the line in index order, and the
tick leaves what the sprite work's turn left. -/

namespace Sys2Proof.Machine

/-- The entry's rows include the current line (rules R421, R422). -/
def onLine (p : Ppu) (e : SpriteEntry) : Bool :=
  decide (e.y.toNat ≤ p.scanline) && decide (p.scanline < e.y.toNat + tall p)

/-- The sprites of the line among the last `n` of sprite memory. -/
def lastLineSprites (p : Ppu) (n : Nat) : List SpriteEntry :=
  ((List.range' (64 - n) n).map (spriteEntry p)).filter (onLine p)

theorem lastLineSprites_all (p : Ppu) : lastLineSprites p 64 = lineSprites p := by
  rw [lastLineSprites, ← List.range_eq_range']
  rfl

theorem lastLineSprites_succ (p : Ppu) {n : Nat} (hn : n + 1 ≤ 64) :
    lastLineSprites p (n + 1) =
      if onLine p (spriteEntry p (64 - (n + 1))) then spriteEntry p (64 - (n + 1)) :: lastLineSprites p n
      else lastLineSprites p n := by
  have hnext : 64 - (n + 1) + 1 = 64 - n := by omega
  rw [lastLineSprites, List.range'_succ, hnext, List.map_cons, List.filter_cons, lastLineSprites]

theorem evaluateFrom_succ (p : Ppu) (n : Nat) (found : List SpriteEntry) :
    evaluateFrom p (n + 1) found =
      if onLine p (spriteEntry p (64 - (n + 1))) then
        if found.length < 8 then evaluateFrom p n (found ++ [spriteEntry p (64 - (n + 1))]) else (found, true)
      else evaluateFrom p n found := by
  simp only [onLine, Bool.and_eq_true, decide_eq_true_eq]
  rfl

/-- The loop appends the first sprites of the line up to eight in all, and reports one more (rule R422). -/
theorem evaluateFrom_eq (p : Ppu) (n : Nat) (found : List SpriteEntry) (hn : n ≤ 64) (hlen : found.length ≤ 8) :
    evaluateFrom p n found =
      (found ++ (lastLineSprites p n).take (8 - found.length),
        decide (8 < found.length + (lastLineSprites p n).length)) := by
  induction n generalizing found with
  | zero =>
    have hnot : ¬ 8 < found.length := by omega
    simp [evaluateFrom, lastLineSprites, hnot]
  | succ n ih =>
    rw [evaluateFrom_succ, lastLineSprites_succ p hn]
    generalize spriteEntry p (64 - (n + 1)) = e
    by_cases hon : onLine p e = true
    · rw [if_pos hon, if_pos hon]
      by_cases hroom : found.length < 8
      · obtain ⟨k, hk⟩ : ∃ k, 8 - found.length = k + 1 := ⟨7 - found.length, by omega⟩
        have hk' : 8 - (found ++ [e]).length = k := by simp; omega
        rw [if_pos hroom, ih _ (by omega) (by simpa using hroom), hk, hk', List.take_succ_cons]
        simp [Nat.add_assoc, Nat.add_comm 1]
      · have hfull : found.length = 8 := by omega
        simp [hfull]
    · rw [if_neg hon, if_neg hon]
      exact ih found (by omega) hlen

theorem evaluateSprites_eq {p : Ppu} (hlen : p.secondary.length ≤ 8) :
    evaluateSprites p = { p with
      secondary := p.secondary ++ (lineSprites p).take (8 - p.secondary.length)
      spriteOverflow := p.spriteOverflow || decide (8 < p.secondary.length + (lineSprites p).length) } := by
  rw [evaluateSprites, evaluateFrom_eq p 64 p.secondary (Nat.le_refl _) hlen, lastLineSprites_all]

/-- What a dot leaves alone is all that the sprites of the line depend on. -/
theorem DotFrame.lineSprites {s t : State} (f : DotFrame s t) : lineSprites t.ppu = lineSprites s.ppu := by
  have hentry : spriteEntry t.ppu = spriteEntry s.ppu := by
    funext n
    simp only [spriteEntry, f.oam]
  have htall : tall t.ppu = tall s.ppu := by rw [tall, tall, f.ctrl]
  rw [Machine.lineSprites, Machine.lineSprites, hentry, htall, f.scanline]

/-- Secondary OAM and the overflow flag: what evaluation writes (rules R420-R422). -/
def evalFields (p : Ppu) : List SpriteEntry × Bool := (p.secondary, p.spriteOverflow)

/-- Secondary OAM after a tick is what the sprite work's turn left. -/
theorem ppuTick_secondary_eq (s : State) :
    (ppuTick s).ppu.secondary = (spriteStage (beforeSprites s)).ppu.secondary := by
  rw [ppuTick, advance_secondary, dotWork_eq, (statusStage_sprites _).secondary]

/-- So is the overflow flag, unless the dot clears it (rule R441). -/
theorem ppuTick_overflow_eq {s : State} (h : ¬ (s.ppu.scanline = 261 ∧ s.ppu.dot = 1)) :
    (ppuTick s).ppu.spriteOverflow = (spriteStage (beforeSprites s)).ppu.spriteOverflow := by
  by_cases hset : s.ppu.scanline = 241 ∧ s.ppu.dot = 1
  · rw [ppuTick_vblank hset.1 hset.2, advance_overflow]
    rfl
  · rw [ppuTick_quiet hset h, advance_overflow]
    rfl

/-- Evaluation's two dots, on a visible line with rendering enabled (rules R420, R422). -/
def evalDot (s : State) (dot : Nat) : Prop := s.ppu.scanline < 240 ∧ renders s ∧ s.ppu.dot = dot

theorem DotFrame.evalDot {s t : State} (f : DotFrame s t) (dot : Nat) : evalDot t dot ↔ evalDot s dot := by
  rw [Machine.evalDot, Machine.evalDot, renders_iff, renders_iff, f.rendering, f.scanline, f.dot]

/-- The sprite work at dot 1 of a visible line (rule R420). -/
theorem spriteStage_clear {s : State} (h : evalDot s 1) :
    spriteStage s = s.setPpu { s.ppu with secondary := [] } := by
  obtain ⟨hline, hr, hd⟩ := h
  have hpre : preRenderLine s.ppu = false := by simp [preRenderLine]; omega
  simp [spriteStage, spriteWork, (renders_iff s).1 hr, hpre, hd]

/-- The sprite work at dot 65 of a visible line (rule R422). -/
theorem spriteStage_evaluate {s : State} (h : evalDot s 65) : spriteStage s = s.setPpu (evaluateSprites s.ppu) := by
  obtain ⟨hline, hr, hd⟩ := h
  have hpre : preRenderLine s.ppu = false := by simp [preRenderLine]; omega
  simp [spriteStage, spriteWork, (renders_iff s).1 hr, hpre, hd]

/-- Elsewhere the sprite work leaves secondary OAM and the overflow flag (rules R420-R426). -/
theorem spriteStage_evalFields {s : State} (h1 : ¬ evalDot s 1) (h65 : ¬ evalDot s 65) :
    evalFields (spriteStage s).ppu = evalFields s.ppu := by
  by_cases hr : rendering s.ppu = true
  · have hrenders := (renders_iff s).2 hr
    have hlines := hrenders.1
    simp only [spriteStage, spriteWork, preRenderLine, hr, if_true, beq_iff_eq]
    split_ifs with hpre _ hd1 hd65
    · rfl
    · rfl
    · exact absurd ⟨by omega, hrenders, hd1⟩ h1
    · exact absurd ⟨by omega, hrenders, hd65⟩ h65
    · rfl
    · rfl
  · simp [spriteStage, hr]

/-- Settles O49: the tick leaves what the sprite work's turn left of secondary OAM and the overflow flag, and that is by
dot the clear, the loop's result, or what stood there. -/
theorem spriteEvaluation : Obligations.SpriteEvaluation := by
  refine ⟨fun s hline hr => ⟨fun hd => ?clear, fun hd hlen => ?evaluate⟩, fun s hnot => ?rests,
    fun s hnot hkept => ?kept⟩
  case clear =>
    refine ⟨?_, by rw [ppuTick_units, if_neg (by omega)]⟩
    rw [ppuTick_secondary_eq, spriteStage_clear (((beforeSprites_frame s).evalDot 1).2 ⟨hline, hr, hd⟩)]
    rfl
  case evaluate =>
    have f := beforeSprites_frame s
    have hsec := (beforeSprites_sprites s).secondary
    have hlines := f.lineSprites
    rw [ppuTick_secondary_eq, ppuTick_overflow_eq (by omega), spriteStage_evaluate ((f.evalDot 65).2 ⟨hline, hr, hd⟩),
      ppuTick_units, if_neg (by omega), evaluateSprites_eq (hsec ▸ hlen), ← beforeSprites_overflow s, ← hsec, ← hlines]
    exact ⟨rfl, rfl, rfl⟩
  case rests =>
    have f := beforeSprites_frame s
    rw [ppuTick_secondary_eq, ← (beforeSprites_sprites s).secondary]
    refine congrArg Prod.fst (spriteStage_evalFields ?_ ?_)
    · rw [f.evalDot]
      exact fun ⟨hline, hr, hd⟩ => hnot ⟨hline, hr, .inl hd⟩
    · rw [f.evalDot]
      exact fun ⟨hline, hr, hd⟩ => hnot ⟨hline, hr, .inr hd⟩
  case kept =>
    have f := beforeSprites_frame s
    rw [ppuTick_overflow_eq hkept, ← beforeSprites_overflow s]
    have h65 : ¬ evalDot (beforeSprites s) 65 := fun h => hnot ((f.evalDot 65).1 h)
    clear hnot hkept f
    generalize beforeSprites s = u at h65 ⊢
    by_cases h1 : evalDot u 1
    · rw [spriteStage_clear h1]
      rfl
    · exact congrArg Prod.snd (spriteStage_evalFields h1 h65)

end Sys2Proof.Machine
end

section
/-! PROOFS. The background pipeline (rules R406-R411): the shift registers and AT latches after a tick are those
after the reload's turn, the four fetch latches those after the fetch's turn. -/

namespace Sys2Proof.Machine

/-- The shift registers and the AT latches (rules R406, R407). -/
def shiftFields (p : Ppu) : (BitVec 16 × BitVec 16) × (BitVec 8 × BitVec 8) × (BitVec 1 × BitVec 1) :=
  ((p.bgLo, p.bgHi), (p.atLo, p.atHi), (p.atLatchLo, p.atLatchHi))

/-- The fetch latches (rules R408-R411). -/
def fetchFields (p : Ppu) : (Byte × BitVec 2) × (Byte × Byte) := ((p.ntLatch, p.atBits), (p.ptLoLatch, p.ptHiLatch))

theorem shiftDot_iff (p : Ppu) : shiftDot p = true ↔ (2 ≤ p.dot ∧ p.dot ≤ 257) ∨ (322 ≤ p.dot ∧ p.dot ≤ 337) := by
  simp [shiftDot, dotIn]

theorem reloadDot_iff (p : Ppu) :
    reloadDot p = true ↔ (9 ≤ p.dot ∧ p.dot ≤ 257 ∧ p.dot % 8 = 1) ∨ p.dot = 329 ∨ p.dot = 337 := by
  simp [reloadDot, dotIn, and_assoc, or_assoc]

theorem fetchDot_iff (p : Ppu) : fetchDot p = true ↔ (1 ≤ p.dot ∧ p.dot ≤ 256) ∨ (321 ≤ p.dot ∧ p.dot ≤ 336) := by
  simp [fetchDot, dotIn]

/-- Every reload dot is a shift dot (rules R406, R407). -/
theorem shiftDot_of_reloadDot {p : Ppu} (h : reloadDot p = true) : shiftDot p = true := by
  rw [reloadDot_iff] at h
  rw [shiftDot_iff]
  omega

/-- The background registers after the shift's turn. -/
def afterShift (s : State) : Ppu := if rendering s.ppu && shiftDot s.ppu then shiftRegisters s.ppu else s.ppu

theorem shiftStage_ppu (s : State) : (shiftStage s).ppu = afterShift s := by
  unfold shiftStage afterShift
  split_ifs <;> rfl

/-- What the reload takes and leaves (rule R407). -/
theorem reloadRegisters_shiftFields {p q : Ppu} (h : shiftFields p = shiftFields q)
    (h' : fetchFields p = fetchFields q) :
    shiftFields (reloadRegisters p) = shiftFields (reloadRegisters q) := by
  simp only [shiftFields, fetchFields, Prod.mk.injEq] at h h' ⊢
  simp [reloadRegisters, h, h']

/-- The shift registers and AT latches after a tick (rules R403, R406, R407). -/
theorem ppuTick_shiftFields (s : State) :
    shiftFields (ppuTick s).ppu =
      shiftFields (if rendering s.ppu && reloadDot s.ppu then reloadRegisters (afterShift s) else afterShift s) := by
  have hfields : shiftFields (pixelStage (shiftStage s)).ppu = shiftFields (afterShift s) := by
    rw [← shiftStage_ppu]
    exact pixelStage_keeps (g := fun t => shiftFields t.ppu) (fun _ _ _ => rfl) _
  have hlatches : fetchFields (pixelStage (shiftStage s)).ppu = fetchFields (afterShift s) := by
    rw [← shiftStage_ppu]
    exact pixelStage_keeps (g := fun t => fetchFields t.ppu) (fun _ _ _ => rfl) _
  have f := (shiftStage_frame s).trans (pixelStage_frame _)
  have hdot : reloadDot (pixelStage (shiftStage s)).ppu = reloadDot s.ppu := by simp only [reloadDot, dotIn, f.dot]
  calc shiftFields (ppuTick s).ppu
      = shiftFields (beforeSprites s).ppu :=
        ppuTick_keeps (g := fun t => shiftFields t.ppu) (fun _ _ _ _ _ _ _ _ _ _ _ _ => rfl) s
    _ = shiftFields (beforeFetch s).ppu :=
        beforeSprites_keeps (g := fun t => shiftFields t.ppu) (fun _ _ _ _ _ _ => rfl) s
    _ = _ := by
      rw [beforeFetch, reloadStage, f.rendering, hdot]
      generalize pixelStage (shiftStage s) = u at hfields hlatches
      split_ifs
      · exact reloadRegisters_shiftFields hfields hlatches
      · exact hfields

/-- The fetch latches after a tick (rules R404, R408-R411). -/
theorem ppuTick_fetchFields (s : State) :
    fetchFields (ppuTick s).ppu =
      fetchFields (if rendering s.ppu && fetchDot s.ppu then backgroundFetch s else s.ppu) := by
  have f := beforeFetch_frame s
  have hlatches : fetchFields (beforeFetch s).ppu = fetchFields s.ppu :=
    beforeFetch_keeps (g := fun t => fetchFields t.ppu) (fun _ _ _ _ _ _ _ _ _ => rfl) s
  have hv : (beforeFetch s).ppu.v = s.ppu.v :=
    beforeFetch_keeps (g := fun t => t.ppu.v) (fun _ _ _ _ _ _ _ _ _ => rfl) s
  have hdot : fetchDot (beforeFetch s).ppu = fetchDot s.ppu := by simp only [fetchDot, dotIn, f.dot]
  calc fetchFields (ppuTick s).ppu
      = fetchFields (beforeSprites s).ppu :=
        ppuTick_keeps (g := fun t => fetchFields t.ppu) (fun _ _ _ _ _ _ _ _ _ _ _ _ => rfl) s
    _ = fetchFields (fetchStage (beforeFetch s)).ppu :=
        scrollStage_keeps (g := fun t => fetchFields t.ppu) (fun _ _ => rfl) _
    _ = _ := by
      rw [fetchStage, f.rendering, hdot]
      generalize beforeFetch s = u at *
      split_ifs
      · simp only [fetchFields, Prod.mk.injEq] at hlatches
        obtain ⟨⟨hnt, hbits⟩, hlo, hhi⟩ := hlatches
        have hpattern : patternAddr u.ppu = patternAddr s.ppu := by simp only [patternAddr, f.ctrl, hnt, hv]
        simp only [State.setPpu_ppu, backgroundFetch, f.dot, funext f.ppuRead, hv, hpattern]
        split <;> simp [fetchFields, hnt, hbits, hlo, hhi]
      · exact hlatches

/-- The four fetches by dot (rules R408-R411). -/
theorem backgroundFetch_fetchFields (s : State) :
    fetchFields (backgroundFetch s) =
      ((if s.ppu.dot % 8 = 1 then ppuRead s (nameTableAddr s.ppu.v) else s.ppu.ntLatch,
        if s.ppu.dot % 8 = 3 then (ppuRead s (attrAddr s.ppu.v) >>> attrShift s.ppu.v).setWidth 2 else s.ppu.atBits),
       (if s.ppu.dot % 8 = 5 then ppuRead s (patternAddr s.ppu) else s.ppu.ptLoLatch,
        if s.ppu.dot % 8 = 7 then ppuRead s (patternAddr s.ppu + 8) else s.ppu.ptHiLatch)) := by
  unfold backgroundFetch
  dsimp only
  generalize s.ppu.dot % 8 = n
  match n with
  | 1 | 3 | 5 | 7 => rfl
  | 0 | 2 | 4 | 6 | n + 8 => rfl

/-- The pattern address with fine Y as the quotient of `v` (rule R410). -/
theorem patternAddr_eq (p : Ppu) :
    patternAddr p = (p.ctrl.getLsbD 4).toNat * 0x1000 + p.ntLatch.toNat * 16 + p.v.toNat / 0x1000 := by
  have hlt := p.v.isLt
  have hfine : (p.v >>> 12).toNat % 8 = p.v.toNat / 0x1000 := by
    rw [BitVec.toNat_ushiftRight, Nat.shiftRight_eq_div_pow]
    omega
  rw [patternAddr, hfine]

theorem extractLsb'_one_eq_ofBool (b : BitVec 2) (k : Nat) : b.extractLsb' k 1 = BitVec.ofBool (b.getLsbD k) := by
  ext i hi
  obtain rfl : i = 0 := by omega
  simp

/-- `ppuTick_shiftFields` by its three kinds of dots, field by field. -/
theorem ppuTick_reload {s : State} (hr : rendering s.ppu = true) (hreload : reloadDot s.ppu = true) :
    shiftFields (ppuTick s).ppu = shiftFields (reloadRegisters (shiftRegisters s.ppu)) := by
  rw [ppuTick_shiftFields, afterShift, hr, hreload, shiftDot_of_reloadDot hreload]
  rfl

theorem ppuTick_shift {s : State} (hr : rendering s.ppu = true) (hshift : shiftDot s.ppu = true)
    (hreload : reloadDot s.ppu = false) : shiftFields (ppuTick s).ppu = shiftFields (shiftRegisters s.ppu) := by
  rw [ppuTick_shiftFields, afterShift, hr, hreload, hshift]
  rfl

theorem ppuTick_noShift {s : State} (h : (rendering s.ppu && shiftDot s.ppu) = false) :
    shiftFields (ppuTick s).ppu = shiftFields s.ppu := by
  have hreload : (rendering s.ppu && reloadDot s.ppu) = false := by
    rw [Bool.and_eq_false_imp] at h ⊢
    exact fun hr => Bool.eq_false_iff.2 fun hd => Bool.eq_false_iff.1 (h hr) (shiftDot_of_reloadDot hd)
  rw [ppuTick_shiftFields, afterShift, h, hreload]
  rfl

theorem shiftFields_eq_iff {p q : Ppu} : shiftFields p = shiftFields q ↔
    (p.bgLo = q.bgLo ∧ p.bgHi = q.bgHi) ∧ (p.atLo = q.atLo ∧ p.atHi = q.atHi) ∧
      p.atLatchLo = q.atLatchLo ∧ p.atLatchHi = q.atLatchHi := by
  simp only [shiftFields, Prod.mk.injEq]

/-- Settles O52: the shift registers by the kind of dot, the fetch latches by the one equation of a fetch dot. -/
theorem backgroundPipeline : Obligations.BackgroundPipeline := by
  intro s p q shift reload fetch tile
  have hshift : shift ↔ rendering p = true ∧ shiftDot p = true := by rw [← renders_iff, shiftDot_iff]
  have hreload : reload ↔ rendering p = true ∧ reloadDot p = true := by rw [← renders_iff, reloadDot_iff]
  have hfetch : fetch ↔ (rendering p && fetchDot p) = true := by rw [Bool.and_eq_true, ← renders_iff, fetchDot_iff]
  have hlatches := ppuTick_fetchFields s
  clear_value shift reload fetch
  refine ⟨fun hs => ?_, fun hs hr => ?_, fun hs hr => ?_, fun hs => ?_, fun hr => ?_, fun hr => ?_, ?_⟩
  · obtain ⟨hrender, hs⟩ := hshift.1 hs
    cases hr : reloadDot p with
    | true => exact (shiftFields_eq_iff.1 (ppuTick_reload hrender hr)).2.1
    | false => exact (shiftFields_eq_iff.1 (ppuTick_shift hrender hs hr)).2.1
  · obtain ⟨hrender, hr⟩ := hreload.1 hr
    exact (shiftFields_eq_iff.1 (ppuTick_reload hrender hr)).1
  · obtain ⟨hrender, hs⟩ := hshift.1 hs
    have hr' : reloadDot p = false := Bool.eq_false_iff.2 fun h => hr (hreload.2 ⟨hrender, h⟩)
    exact (shiftFields_eq_iff.1 (ppuTick_shift hrender hs hr')).1
  · have h : (rendering p && shiftDot p) = false :=
      Bool.eq_false_iff.2 fun h => hs (hshift.2 (Bool.and_eq_true_iff.1 h))
    obtain ⟨⟨hlo, hhi⟩, ⟨hatLo, hatHi⟩, -⟩ := shiftFields_eq_iff.1 (ppuTick_noShift h)
    exact ⟨hlo, hhi, hatLo, hatHi⟩
  · obtain ⟨hrender, hr⟩ := hreload.1 hr
    obtain ⟨-, -, hlo, hhi⟩ := shiftFields_eq_iff.1 (ppuTick_reload hrender hr)
    exact ⟨hlo.trans (extractLsb'_one_eq_ofBool _ _), hhi.trans (extractLsb'_one_eq_ofBool _ _)⟩
  · cases hs : rendering p && shiftDot p with
    | false => exact (shiftFields_eq_iff.1 (ppuTick_noShift hs)).2.2
    | true =>
      obtain ⟨hrender, hs⟩ := Bool.and_eq_true_iff.1 hs
      have hr' : reloadDot p = false := Bool.eq_false_iff.2 fun h => hr (hreload.2 ⟨hrender, h⟩)
      exact (shiftFields_eq_iff.1 (ppuTick_shift hrender hs hr')).2.2
  · have htile : patternAddr p = tile := patternAddr_eq p
    by_cases hf : fetch
    · rw [if_pos (hfetch.1 hf), backgroundFetch_fetchFields] at hlatches
      simp only [fetchFields, Prod.mk.injEq] at hlatches
      obtain ⟨⟨hnt, hbits⟩, hlo, hhi⟩ := hlatches
      rw [hnt, hbits, hlo, hhi, htile]
      simp only [hf, true_and]
      exact ⟨fun h => if_pos h, fun h => if_neg h, fun h => if_neg h, fun h => if_pos h, fun h => if_neg h,
        fun h => if_pos h, fun h => if_neg h⟩
    · rw [if_neg (mt hfetch.2 hf)] at hlatches
      simp only [fetchFields, Prod.mk.injEq] at hlatches
      obtain ⟨⟨hnt, hbits⟩, hlo, hhi⟩ := hlatches
      simp only [hf, false_and, false_imp_iff, not_false_iff, true_imp_iff, true_and]
      exact ⟨hnt, hbits, hlo, hhi⟩

end Sys2Proof.Machine
end

section
/-! PROOFS. Scroll updates (rules R412-R415) and the AT fetch (rule R409): the masks of `v` as its fields. -/

namespace Sys2Proof.Machine

/-- A mask of `n` bits from bit `k` on keeps that field. -/
theorem nat_and_fieldMask (x k n : Nat) : x &&& ((2 ^ n - 1) <<< k) = x / 2 ^ k % 2 ^ n * 2 ^ k := by
  rw [← Nat.shiftLeft_eq]
  apply Nat.eq_of_testBit_eq
  intro i
  simp only [Nat.testBit_and, Nat.testBit_shiftLeft, Nat.testBit_two_pow_sub_one, Nat.testBit_mod_two_pow,
    Nat.testBit_div_two_pow]
  by_cases h : k ≤ i
  · simp [h, Bool.and_comm]
  · simp [h]

/-- The fields of `v` that rules R409, R412 and R413 mask out. -/
theorem tableField_toNat (v : BitVec 15) : (v &&& 0x0C00#15).toNat = v.toNat / 0x400 % 4 * 0x400 :=
  nat_and_fieldMask v.toNat 10 2

theorem rowField_toNat (v : BitVec 15) : ((v >>> 4) &&& 0x38#15).toNat = v.toNat / 0x80 % 8 * 8 := by
  have h := nat_and_fieldMask (v >>> 4).toNat 3 3
  rw [BitVec.toNat_ushiftRight, Nat.shiftRight_eq_div_pow, Nat.div_div_eq_div_mul] at h
  rw [BitVec.toNat_and, BitVec.toNat_ushiftRight, Nat.shiftRight_eq_div_pow]
  exact h

theorem columnField_toNat (v : BitVec 15) : ((v >>> 2) &&& 0x07#15).toNat = v.toNat / 4 % 8 := by
  rw [BitVec.toNat_and, BitVec.toNat_ushiftRight, Nat.shiftRight_eq_div_pow]
  exact Nat.and_two_pow_sub_one_eq_mod _ 3

/-- The AT byte's address, its three fields side by side (rule R409). -/
theorem attrAddr_eq (v : BitVec 15) :
    attrAddr v = 0x23C0 + v.toNat / 0x400 % 4 * 0x400 + v.toNat / 0x80 % 8 * 8 + v.toNat / 4 % 8 := by
  have htable : 0x23C0#15 &&& (v &&& 0x0C00#15) = 0 := by
    ext i hi
    interval_cases i <;> simp
  have hrow : (0x23C0#15 ||| (v &&& 0x0C00#15)) &&& ((v >>> 4) &&& 0x38#15) = 0 := by
    ext i hi
    interval_cases i <;> simp
  have hcolumn : (0x23C0#15 ||| (v &&& 0x0C00#15) ||| ((v >>> 4) &&& 0x38#15)) &&& ((v >>> 2) &&& 0x07#15) = 0 := by
    ext i hi
    interval_cases i <;> simp
  change (0x23C0#15 ||| (v &&& 0x0C00#15) ||| ((v >>> 4) &&& 0x38#15) ||| ((v >>> 2) &&& 0x07#15)).toNat = _
  rw [← BitVec.add_eq_or_of_and_eq_zero _ _ hcolumn, ← BitVec.add_eq_or_of_and_eq_zero _ _ hrow,
    ← BitVec.add_eq_or_of_and_eq_zero _ _ htable]
  simp only [BitVec.toNat_add, tableField_toNat, rowField_toNat, columnField_toNat, BitVec.toNat_ofNat]
  omega

/-- The quadrant's shift (rule R409). -/
theorem attrShift_eq (v : BitVec 15) : attrShift v = v.toNat / 0x40 % 2 * 4 + v.toNat / 2 % 2 * 2 := by
  have hdisjoint : ((v >>> 4) &&& 0x04#15) &&& (v &&& 0x02#15) = 0 := by
    ext i hi
    interval_cases i <;> simp
  have hrow : ((v >>> 4) &&& 0x04#15).toNat = v.toNat / 0x40 % 2 * 4 := by
    have h := nat_and_fieldMask (v >>> 4).toNat 2 1
    rw [BitVec.toNat_ushiftRight, Nat.shiftRight_eq_div_pow, Nat.div_div_eq_div_mul] at h
    rw [BitVec.toNat_and, BitVec.toNat_ushiftRight, Nat.shiftRight_eq_div_pow]
    exact h
  have hcolumn : (v &&& 0x02#15).toNat = v.toNat / 2 % 2 * 2 := nat_and_fieldMask v.toNat 1 1
  change (((v >>> 4) &&& 0x04#15) ||| (v &&& 0x02#15)).toNat = _
  rw [← BitVec.add_eq_or_of_and_eq_zero _ _ hdisjoint, BitVec.toNat_add, hrow, hcolumn]
  omega

/-- The vertical increment as ScrollAndAttribute writes it (rule R413). -/
def verticalStep (v : BitVec 15) : BitVec 15 :=
  if v.toNat / 0x1000 < 7 then v + 0x1000#15
  else if v.toNat / 32 % 32 = 29 then (v &&& 0x0C1F#15) ^^^ 0x0800#15
  else if v.toNat / 32 % 32 = 31 then v &&& 0x0C1F#15
  else (v &&& 0x0FFF#15) + 0x20#15

theorem fineY_full_iff (v : BitVec 15) : v &&& 0x7000#15 = 0x7000#15 ↔ ¬ v.toNat / 0x1000 < 7 := by
  have h : (v &&& 0x7000#15).toNat = v.toNat / 0x1000 % 8 * 0x1000 := nat_and_fieldMask v.toNat 12 3
  have hlt := v.isLt
  rw [← BitVec.toNat_inj, h]
  show v.toNat / 0x1000 % 8 * 0x1000 = 0x7000 ↔ _
  omega

/-- Coarse Y of `v` once fine Y has been cleared (rule R413). -/
theorem coarseY_toNat (v : BitVec 15) : (((v &&& 0x0FFF#15) &&& 0x03E0#15) >>> 5).toNat = v.toNat / 32 % 32 := by
  have hmask : (v &&& 0x0FFF#15) &&& 0x03E0#15 = v &&& 0x03E0#15 := by
    rw [BitVec.and_assoc]
    rfl
  have h : (v &&& 0x03E0#15).toNat = v.toNat / 32 % 32 * 32 := nat_and_fieldMask v.toNat 5 5
  rw [hmask, BitVec.toNat_ushiftRight, Nat.shiftRight_eq_div_pow, h]
  exact Nat.mul_div_cancel _ (by decide)

/-- Replacing coarse Y by the next row is adding a row, below the last one (rule R413). -/
theorem nextRow_eq_add {w : BitVec 15} (h : ((w &&& 0x03E0#15) >>> 5).toNat < 31) :
    (w &&& ~~~0x03E0#15) ||| (((w &&& 0x03E0#15) >>> 5) + 1#15) <<< 5 = w + 0x20#15 := by
  have hsplit : (w &&& ~~~0x03E0#15) + ((w &&& 0x03E0#15) >>> 5) <<< 5 = w := by
    rw [BitVec.add_eq_or_of_and_eq_zero]
    all_goals
      ext i hi
      interval_cases i <;> simp
  generalize hcy : (w &&& 0x03E0#15) >>> 5 = cy at h hsplit ⊢
  have hnext : cy + 1#15 = (cy + 1#15) &&& 0x1F#15 := by
    have hmod : ((cy + 1#15) &&& 0x1F#15).toNat = (cy + 1#15).toNat % 2 ^ 5 := Nat.and_two_pow_sub_one_eq_mod _ 5
    rw [← BitVec.toNat_inj, hmod, BitVec.toNat_add]
    simp only [BitVec.toNat_ofNat]
    omega
  have hdisjoint : (w &&& ~~~0x03E0#15) &&& (cy + 1#15) <<< 5 = 0 := by
    rw [hnext]
    generalize cy + 1#15 = c
    ext i hi
    interval_cases i <;> simp
  have hrow : (cy + 1#15) <<< 5 = cy <<< 5 + 0x20#15 := by
    rw [← BitVec.toNat_inj]
    simp only [BitVec.toNat_add, BitVec.toNat_shiftLeft, BitVec.toNat_ofNat, Nat.shiftLeft_eq]
    omega
  rw [← BitVec.add_eq_or_of_and_eq_zero _ _ hdisjoint, hrow, ← BitVec.add_assoc, hsplit]

theorem verticalNext_eq (v : BitVec 15) : verticalNext v = verticalStep v := by
  unfold verticalNext verticalStep
  by_cases hfine : v.toNat / 0x1000 < 7
  · rw [if_pos hfine]
    exact if_pos fun h => (fineY_full_iff v).1 h hfine
  · rw [if_neg hfine]
    refine (if_neg (not_not.2 ((fineY_full_iff v).2 hfine))).trans ?_
    have hcy := coarseY_toNat v
    have hlt : v.toNat / 32 % 32 < 32 := Nat.mod_lt _ (by decide)
    by_cases h29 : v.toNat / 32 % 32 = 29
    · rw [if_pos h29]
      refine (if_pos ?_).trans ?_
      · exact BitVec.eq_of_toNat_eq (hcy.trans h29)
      · ext i hi
        interval_cases i <;> simp
    · rw [if_neg h29]
      refine (if_neg fun h => h29 (hcy.symm.trans (congrArg BitVec.toNat h))).trans ?_
      by_cases h31 : v.toNat / 32 % 32 = 31
      · rw [if_pos h31]
        refine (if_pos ?_).trans ?_
        · exact BitVec.eq_of_toNat_eq (hcy.trans h31)
        · rw [BitVec.and_assoc]
          rfl
      · rw [if_neg h31]
        refine (if_neg fun h => h31 (hcy.symm.trans (congrArg BitVec.toNat h))).trans ?_
        exact nextRow_eq_add (w := v &&& 0x0FFF#15) (by omega)

/-- `v` after a tick: the scroll updates of a render line, and nothing else writes it (rules R403, R412-R415). -/
theorem ppuTick_v (s : State) :
    (ppuTick s).ppu.v = if rendering s.ppu = true then scrollNext s.ppu else s.ppu.v := by
  have hv : (fetchStage (beforeFetch s)).ppu.v = s.ppu.v :=
    (fetchStage_keeps (g := fun t => t.ppu.v) (fun _ _ _ _ _ => rfl) _).trans
      (beforeFetch_keeps (g := fun t => t.ppu.v) (fun _ _ _ _ _ _ _ _ _ => rfl) s)
  have f := (beforeFetch_frame s).trans (fetchStage_frame _)
  have hfetch : fetchDot (fetchStage (beforeFetch s)).ppu = fetchDot s.ppu := by simp only [fetchDot, dotIn, f.dot]
  have hnext : scrollNext (fetchStage (beforeFetch s)).ppu = scrollNext s.ppu := by
    unfold scrollNext preRenderLine
    rw [hfetch, f.dot, f.scanline, f.tmp, hv]
  calc (ppuTick s).ppu.v
      = (scrollStage (fetchStage (beforeFetch s))).ppu.v :=
        ppuTick_keeps (g := fun t => t.ppu.v) (fun _ _ _ _ _ _ _ _ _ _ _ _ => rfl) s
    _ = _ := by
      rw [scrollStage, f.rendering]
      split_ifs
      · exact hnext
      · exact hv

/-- The copies of rules R414 and R415, with their masks as numbers. -/
theorem horizontalCopy_eq (v t : BitVec 15) : horizontalCopy v t = (v &&& 0x7BE0) ||| (t &&& 0x041F) := rfl

theorem verticalCopy_eq (v t : BitVec 15) : verticalCopy v t = (v &&& 0x041F) ||| (t &&& 0x7BE0) := rfl

/-- The scroll updates by dot: the four dots' groups exclude each other, but for dot 256's two steps. -/
theorem scrollNext_coarse {p : Ppu} (hf : fetchDot p = true) (h8 : p.dot % 8 = 0) :
    scrollNext p = if p.dot = 256 then verticalNext (coarseXNext p.v) else coarseXNext p.v := by
  have h257 : ¬ p.dot = 257 := by omega
  have h280 : ¬ p.dot = 280 := by
    rw [fetchDot_iff] at hf
    omega
  simp [scrollNext, hf, h8, h257, h280]

theorem scrollNext_horizontal {p : Ppu} (h : p.dot = 257) : scrollNext p = horizontalCopy p.v p.t := by
  simp [scrollNext, h]

theorem scrollNext_vertical {p : Ppu} (hline : p.scanline = 261) (h : p.dot = 280) :
    scrollNext p = verticalCopy p.v p.t := by
  simp [scrollNext, preRenderLine, fetchDot, dotIn, hline, h]

theorem scrollNext_rests {p : Ppu} (hf : ¬ (fetchDot p = true ∧ p.dot % 8 = 0)) (h257 : p.dot ≠ 257)
    (h280 : ¬ (p.scanline = 261 ∧ p.dot = 280)) : scrollNext p = p.v := by
  have h256 : p.dot ≠ 256 := fun h => hf ⟨(fetchDot_iff p).2 (by omega), by omega⟩
  simp [scrollNext, preRenderLine, hf, h256, h257, h280]

/-- Settles O53: the one equation of `v` by dot, and the AT fetch's address and quadrant by their fields. -/
theorem scrollAndAttribute : Obligations.ScrollAndAttribute := by
  intro s p q fetch coarse vertical
  have f := ppuTick_frame s
  refine ⟨fun hr hf h8 hd => ?_, fun hr hd => ?_, fun hr hd => ?_, fun hr hline hd => ?_, fun hrest => ?_,
    ⟨f.tmp, f.x, f.w⟩, fun hr hf h3 => ?_⟩
  · rw [ppuTick_v, if_pos ((renders_iff s).1 hr), scrollNext_coarse ((fetchDot_iff p).2 hf) h8, if_neg hd]
    rfl
  · rw [ppuTick_v, if_pos ((renders_iff s).1 hr), scrollNext_coarse ((fetchDot_iff p).2 (by omega)) (by omega),
      if_pos hd, verticalNext_eq]
    rfl
  · rw [ppuTick_v, if_pos ((renders_iff s).1 hr), scrollNext_horizontal hd]
    exact horizontalCopy_eq _ _
  · rw [ppuTick_v, if_pos ((renders_iff s).1 hr), scrollNext_vertical hline hd]
    exact verticalCopy_eq _ _
  · rw [ppuTick_v]
    split_ifs with hr
    · have hdots := hrest.resolve_left (not_not.2 ((renders_iff s).2 hr))
      exact scrollNext_rests (by rw [fetchDot_iff]; exact hdots.1) hdots.2.1 hdots.2.2
    · rfl
  · have hwork : (rendering p && fetchDot p) = true := by
      rw [Bool.and_eq_true, ← renders_iff, fetchDot_iff]
      exact ⟨hr, hf⟩
    have hfields := ppuTick_fetchFields s
    rw [if_pos hwork, backgroundFetch_fetchFields, if_pos h3, attrAddr_eq, attrShift_eq] at hfields
    simp only [fetchFields, Prod.mk.injEq] at hfields
    exact hfields.1.2

end Sys2Proof.Machine
end

section
/-! PROOFS. The pixel of a dot (rules R430-R436), with rendering enabled and disabled. -/

namespace Sys2Proof.Machine

/-- A bit as a number is a digit of the word. -/
theorem getLsbD_toNat {w : Nat} (b : BitVec w) (k : Nat) : (b.getLsbD k).toNat = b.toNat / 2 ^ k % 2 :=
  Nat.toNat_testBit _ _

theorem backgroundPixel_eq (p : Ppu) (x : Nat) : backgroundPixel p x = backgroundBits p x := by
  simp only [backgroundPixel, backgroundBits, getLsbD_toNat, Bool.and_eq_true, Bool.or_eq_true, decide_eq_true_eq,
    Nat.mul_comm _ 2]

theorem unitPixel_eq (u : SpriteUnit) (x : Nat) : unitPixel u x = unitBits u x := by
  simp only [unitPixel, unitBits, getLsbD_toNat, Nat.mul_comm _ 2]

/-- The sprite of a pixel is the one `spritePixel` finds (rule R432). -/
theorem isSprite_iff (p : Ppu) (x : Nat) (o : Option SpriteUnit) : IsSprite p x o ↔ spritePixel p x = o := by
  have hshown : (p.mask.getLsbD 4 && (decide (8 ≤ x) || p.mask.getLsbD 2)) = true ↔ spritesShown p x := by
    simp [spritesShown]
  unfold spritePixel
  by_cases h : spritesShown p x
  · rw [if_pos (hshown.2 h)]
    cases o with
    | none => simp [IsSprite, h, List.find?_eq_none, unitPixel_eq]
    | some u =>
      simp only [IsSprite, h, true_and, List.find?_eq_some_iff_getElem, unitPixel_eq, bne_iff_ne, ne_eq,
        Bool.not_eq_true', bne_eq_false_iff_eq]
      refine and_congr_right fun _ => exists_congr fun k => ⟨fun ⟨hk, hj⟩ => ?_, fun ⟨hlt, hk, hj⟩ => ?_⟩
      · obtain ⟨hlt, hk⟩ := List.getElem?_eq_some_iff.1 hk
        exact ⟨hlt, hk, fun j hjk => hj j _ hjk (List.getElem?_eq_getElem (hjk.trans hlt))⟩
      · refine ⟨List.getElem?_eq_some_iff.2 ⟨hlt, hk⟩, fun j w hjk hw => ?_⟩
        obtain ⟨_, rfl⟩ := List.getElem?_eq_some_iff.1 hw
        exact hj j hjk
  · rw [if_neg (mt hshown.1 h)]
    cases o with
    | none => simp [IsSprite, h]
    | some u => simp [IsSprite, h]

/-- The multiplexer's table (rule R433). -/
theorem composePixel_eq (p : Ppu) (x : Nat) :
    composePixel p x = (layerAddr (backgroundBits p x) (spritePixel p x) x,
      match spritePixel p x with
      | none => false
      | some u => decide ((backgroundBits p x).1 ≠ 0) && u.isSprite0 && decide (x ≠ 255)) := by
  unfold composePixel
  rw [backgroundPixel_eq]
  generalize backgroundBits p x = bg
  cases hsprite : spritePixel p x with
  | none => rfl
  | some u =>
    have hopaque : unitBits u x ≠ 0 := ((isSprite_iff p x (some u)).2 hsprite).2.1
    dsimp only
    rw [unitPixel_eq, paletteMux, if_neg hopaque, layerAddr]
    by_cases hbg : bg.1 = 0
    · simp [hbg]
    · cases u.behindBg <;> simp [hbg, bne, BEq.beq]

/-- The frame entry of a palette address (rule R435). -/
theorem pixelColour_eq (s : State) (a : Nat) : pixelColour s a = entryOf s a := by
  unfold pixelColour entryOf
  rfl

theorem DotFrame.entryOf {s t : State} (f : DotFrame s t) (a : Nat) : entryOf t a = entryOf s a := by
  simp only [Machine.entryOf, f.ppuRead, f.mask]

/-- At the dots of a visible line the registers after the shift's turn are those the pixel sees (rules R403, R406). -/
theorem afterShift_eq_atPixel {s : State} (hline : s.ppu.scanline < 240) (hdot : s.ppu.dot ≤ 256) :
    afterShift s = atPixel s.ppu := by
  have hcond : (rendering s.ppu && shiftDot s.ppu) = true ↔
      2 ≤ s.ppu.dot ∧ (s.ppu.mask.getLsbD 3 = true ∨ s.ppu.mask.getLsbD 4 = true) := by
    rw [Bool.and_eq_true, ← renders_iff, shiftDot_iff, renders]
    constructor
    · exact fun ⟨⟨_, hmask⟩, hd⟩ => ⟨by omega, hmask⟩
    · exact fun ⟨hd, hmask⟩ => ⟨⟨.inl hline, hmask⟩, .inl (by omega)⟩
  rw [afterShift, atPixel]
  by_cases h : (rendering s.ppu && shiftDot s.ppu) = true
  · rw [if_pos h, if_pos (hcond.1 h)]
    rfl
  · rw [if_neg h, if_neg (mt hcond.2 h)]

/-- Away from the clear, the frame and the hit flag after a tick are those after the pixel output's turn. -/
theorem ppuTick_pixelFields {s : State} (hclear : ¬ (s.ppu.scanline = 261 ∧ s.ppu.dot = 1)) :
    pixelFields (ppuTick s) = pixelFields (pixelStage (shiftStage s)) := by
  rw [← beforeStatus_pixelFields]
  by_cases hset : s.ppu.scanline = 241 ∧ s.ppu.dot = 1
  · rw [ppuTick_vblank hset.1 hset.2, advance_pixelFields]
    generalize beforeStatus s = u
    rfl
  · rw [ppuTick_quiet hset hclear, advance_pixelFields]

/-- A tick at a visible dot (rules R430-R436). -/
theorem ppuTick_visible {s : State} (hline : s.ppu.scanline < 240) (hlo : 1 ≤ s.ppu.dot) (hhi : s.ppu.dot ≤ 256) :
    pixelFields (ppuTick s) =
      (frameSet s.ppu.frame s.ppu.scanline (s.ppu.dot - 1)
        (entryOf s (composePixel (atPixel s.ppu) (s.ppu.dot - 1)).1),
       s.ppu.sprite0Hit || (composePixel (atPixel s.ppu) (s.ppu.dot - 1)).2) := by
  have f := shiftStage_frame s
  have hcond : (visibleLine (shiftStage s).ppu && dotIn (shiftStage s).ppu 1 256) = true := by
    simp [visibleLine, dotIn, f.scanline, f.dot, hline, hlo, hhi]
  have hatPixel : (shiftStage s).ppu = atPixel s.ppu := by rw [shiftStage_ppu, afterShift_eq_atPixel hline hhi]
  obtain ⟨hframe, hhit⟩ := pixelFields_eq_iff.1 (shiftStage_pixelFields s)
  rw [ppuTick_pixelFields (by omega), pixelStage, if_pos hcond, ← hatPixel, ← f.scanline, ← f.dot, ← hframe, ← hhit,
    ← f.entryOf, ← pixelColour_eq]
  rfl

/-- A tick at every other dot (rules R402, R430). -/
theorem ppuTick_pixelFields_idle {s : State} (h : ¬ (s.ppu.scanline < 240 ∧ 1 ≤ s.ppu.dot ∧ s.ppu.dot ≤ 256))
    (hclear : ¬ (s.ppu.scanline = 261 ∧ s.ppu.dot = 1)) : pixelFields (ppuTick s) = pixelFields s := by
  have f := shiftStage_frame s
  rw [ppuTick_pixelFields hclear, pixelStage_idle (by rw [f.scanline, f.dot]; exact h), shiftStage_pixelFields]

/-- The clear leaves the frame (rule R441). -/
theorem ppuTick_frame_idle {s : State} (h : ¬ (s.ppu.scanline < 240 ∧ 1 ≤ s.ppu.dot ∧ s.ppu.dot ≤ 256)) :
    (ppuTick s).ppu.frame = s.ppu.frame := by
  by_cases hclear : s.ppu.scanline = 261 ∧ s.ppu.dot = 1
  · rw [ppuTick_clear hclear.1 hclear.2]
    obtain ⟨hidle, -⟩ := pixelFields_eq_iff.1 (beforeStatus_pixelFields_idle h)
    generalize beforeStatus s = u at hidle
    exact (pixelFields_eq_iff.1 (advance_pixelFields _)).1.trans hidle
  · exact (pixelFields_eq_iff.1 (ppuTick_pixelFields_idle h hclear)).1

/-- Settles O51: the pixel by the functions of the model, and the tick by its pixel output's turn. -/
theorem pixelPriority : Obligations.PixelPriority := by
  refine ⟨fun p x => ⟨backgroundPixel_eq p x, fun u => unitPixel_eq u x, (isSprite_iff p x _).2 rfl,
    composePixel_eq p x⟩, fun s hline hlo hhi => ?visible, fun s hnot => ⟨ppuTick_frame_idle hnot, fun hclear => ?hit⟩⟩
  case visible =>
    intro p x
    have htick : pixelFields (ppuTick s) = (frameSet s.ppu.frame s.ppu.scanline x (entryOf s (composePixel p x).1),
        s.ppu.sprite0Hit || (composePixel p x).2) := ppuTick_visible hline hlo hhi
    clear_value p x
    simp only [pixelFields, Prod.mk.injEq] at htick
    obtain ⟨hframe, hhit⟩ := htick
    rw [composePixel_eq] at hframe hhit
    rw [hframe, hhit]
    refine ⟨fun o ho => ?_, fun y x' hne => ?_, ?_⟩
    · rw [frameGet_set, if_pos ⟨rfl, rfl⟩, (isSprite_iff p x o).1 ho]
    · rw [frameGet_set, if_neg fun h => hne ⟨h.1.symm, h.2.symm⟩]
    · rw [Bool.or_eq_true]
      refine or_congr Iff.rfl ?_
      simp only [isSprite_iff]
      cases spritePixel p x with
      | none => simp
      | some u => simp [and_assoc, and_comm, and_left_comm]
  case hit => exact (pixelFields_eq_iff.1 (ppuTick_pixelFields_idle hnot hclear)).2

end Sys2Proof.Machine
end

section
/-! PROOFS. A tick with rendering disabled (rules R426, R435, R436). -/

namespace Sys2Proof.Machine

/-- Rendering is disabled (rule R368). -/
def disabled (s : State) : Prop := s.ppu.mask.getLsbD 3 = false ∧ s.ppu.mask.getLsbD 4 = false

theorem not_rendering_of_disabled {s : State} (h : disabled s) : rendering s.ppu = false := by
  simp only [rendering, renderingEnabled, h.1, h.2, Bool.or_false, Bool.and_false]

/-- Nothing is opaque, so the pixel is the backdrop (rule R433). -/
theorem composePixel_disabled {s : State} (h : disabled s) (x : Nat) :
    composePixel (atPixel s.ppu) x = (0x3F00, false) := by
  have hatPixel : atPixel s.ppu = s.ppu := by simp only [atPixel, h.1, h.2, reduceCtorEq, or_false, and_false, if_false]
  have hsprite : spritePixel s.ppu x = none := by simp only [spritePixel, h.2, Bool.false_and, reduceCtorEq, if_false]
  have hbg : backgroundBits s.ppu x = (0, 0) := by
    simp only [backgroundBits, h.1, reduceCtorEq, false_and, if_false]
  rw [hatPixel, composePixel_eq, hsprite, hbg]
  rfl

/-- The backdrop's byte is palette entry 0 (rules R93, R435). -/
theorem entryOf_backdrop (s : State) : entryOf s 0x3F00 =
    { index := if s.ppu.mask.getLsbD 0 then (s.ppu.palette.read 0).setWidth 6 &&& 0x30
        else (s.ppu.palette.read 0).setWidth 6
      emphasis := s.ppu.mask.extractLsb' 5 3 } := rfl

/-- At the visible dots the backdrop is put out (rules R430, R435, R436). -/
theorem ppuTick_visible_disabled {s : State} (hdisabled : disabled s) (hline : s.ppu.scanline < 240)
    (hlo : 1 ≤ s.ppu.dot) (hhi : s.ppu.dot ≤ 256) :
    (ppuTick s).ppu.frame = frameSet s.ppu.frame s.ppu.scanline (s.ppu.dot - 1) (entryOf s 0x3F00) ∧
      (ppuTick s).ppu.sprite0Hit = s.ppu.sprite0Hit := by
  have h := ppuTick_visible hline hlo hhi
  rw [composePixel_disabled hdisabled, Bool.or_false] at h
  simpa only [pixelFields, Prod.mk.injEq] using h

/-- The pipeline and the sprites rest: what a tick can then change of the picture engine. -/
theorem ppuTick_ppu_disabled {s : State} (h : disabled s) :
    (ppuTick s).ppu = { s.ppu with
      frame := (ppuTick s).ppu.frame, scanline := (ppuTick s).ppu.scanline, dot := (ppuTick s).ppu.dot,
      oddFrame := (ppuTick s).ppu.oddFrame, ticks := s.ppu.ticks + 1, vblank := (ppuTick s).ppu.vblank,
      sprite0Hit := (ppuTick s).ppu.sprite0Hit, spriteOverflow := (ppuTick s).ppu.spriteOverflow } := by
  have hr := not_rendering_of_disabled h
  have hrest : ¬ renders s := by simp [renders_iff, hr]
  have f := ppuTick_frame s
  have hv : (ppuTick s).ppu.v = s.ppu.v := by simp [ppuTick_v, hr]
  have hunits : (ppuTick s).ppu.units = s.ppu.units := by simp [ppuTick_units, hr]
  have hsecondary : (ppuTick s).ppu.secondary = s.ppu.secondary :=
    spriteEvaluation.2.1 s fun hdot => hrest hdot.2.1
  obtain ⟨⟨hbgLo, hbgHi⟩, ⟨hatLo, hatHi⟩, hlatchLo, hlatchHi⟩ :=
    shiftFields_eq_iff.1 (ppuTick_noShift (s := s) (by rw [hr, Bool.false_and]))
  have hfetch := ppuTick_fetchFields s
  rw [hr, Bool.false_and, if_neg Bool.false_ne_true] at hfetch
  simp only [fetchFields, Prod.mk.injEq] at hfetch
  obtain ⟨⟨hnt, hbits⟩, hlo, hhi⟩ := hfetch
  dsimp only
  rw [← ppuTick_ticks, ← f.ctrl, ← f.mask, ← f.oamAddr, ← f.tmp, ← f.x, ← f.w, ← f.readBuffer, ← f.oam, ← f.palette,
    ← f.nametable, ← hv, ← hunits, ← hsecondary, ← hbgLo, ← hbgHi, ← hatLo, ← hatHi, ← hlatchLo, ← hlatchHi, ← hnt,
    ← hbits, ← hlo, ← hhi]

/-- Settles O54: the pixel output's turn puts out the backdrop, every other turn rests. -/
theorem disabledRendering : Obligations.DisabledRendering := by
  intro s h3 h4 p q colour
  have h : disabled s := ⟨h3, h4⟩
  refine ⟨fun hline hlo hhi => ?_, ppuTick_frame_idle, ppuTick_ppu_disabled h, fun hclear => ⟨?_, ?_⟩⟩
  · rw [(ppuTick_visible_disabled h hline hlo hhi).1]
    refine ⟨?_, fun y x hne => ?_⟩
    · rw [frameGet_set, if_pos ⟨rfl, rfl⟩, entryOf_backdrop]
    · rw [frameGet_set, if_neg fun h => hne ⟨h.1.symm, h.2.symm⟩]
  · refine spriteEvaluation.2.2 s (fun hdot => ?_) hclear
    exact Bool.false_ne_true ((not_rendering_of_disabled h).symm.trans ((renders_iff s).1 hdot.2.1))
  · by_cases hvisible : s.ppu.scanline < 240 ∧ 1 ≤ s.ppu.dot ∧ s.ppu.dot ≤ 256
    · obtain ⟨hline, hlo, hhi⟩ := hvisible
      exact (ppuTick_visible_disabled h hline hlo hhi).2
    · exact (pixelFields_eq_iff.1 (ppuTick_pixelFields_idle hvisible hclear)).2

end Sys2Proof.Machine
end

section
/-! PROOFS. The driver step (rules R462-R464, R492, R493): the interrupt check case by case, the clock ratio over a
step, and the instruction a step runs. -/

namespace Sys2Proof.Machine

/-- The status byte an interrupt pushes, in masks (rule R493). -/
theorem interruptStatus_eq (s : State) :
    interruptStatus s = (packP s.cpu &&& 0xEF) ||| (if s.params.intPushB then 0x30 else 0x20) := by
  unfold interruptStatus
  generalize packP s.cpu = p, s.params.intPushB = k
  rw [BitVec.or_assoc]
  cases k <;> rfl

/-- The check with an NMI pending (rule R492). -/
theorem interruptCheck_nmi {s : State} (h : s.nmiPending = true) :
    interruptCheck s = .ok () (ppuTicks 21 (entered ((dropIrqLevel s).setNmiPending false) s.cpu.pc
      (interruptStatus s) 0xFFFA 7)) := by
  rw [interruptCheck, if_pos h, interruptEntry_entered _ (by decide) (by decide), Res.bind_ok]
  rfl

/-- The check with the IRQ line high and unmasked (rule R492). -/
theorem interruptCheck_irq {s : State} (h : s.nmiPending = false) (hline : irqLevel s = true) (hi : s.cpu.i = false) :
    interruptCheck s = .ok () (ppuTicks 21 (entered (dropIrqLevel s) s.cpu.pc (interruptStatus s) 0xFFFE 7)) := by
  simp only [interruptCheck, h, hline, hi, Bool.not_false, Bool.and_true, if_true, Bool.false_eq_true, if_false]
  rw [interruptEntry_entered _ (by decide) (by decide), Res.bind_ok]
  rfl

/-- The check with nothing to take (rule R492). -/
theorem interruptCheck_none {s : State} (h : s.nmiPending = false) (hmask : irqLevel s = false ∨ s.cpu.i = true) :
    interruptCheck s = .ok () (dropIrqLevel s) := by
  have hcond : (irqLevel s && !s.cpu.i) = false := by
    rcases hmask with hline | hi
    · rw [hline, Bool.false_and]
    · rw [hi, Bool.not_true, Bool.and_false]
  simp only [interruptCheck, h, hcond, Bool.false_eq_true, if_false]

/-- Settles O44: the three cases of the check. -/
theorem interruptChecks : Obligations.InterruptChecks := by
  intro s u line status
  have hstatus : interruptStatus s = status := interruptStatus_eq s
  refine ⟨fun hnmi => ?_, fun hnmi hline hi => ?_, fun hnmi hmask => interruptCheck_none hnmi hmask⟩
  · rw [interruptCheck_nmi hnmi, hstatus]
    rfl
  · rw [interruptCheck_irq hnmi hline hi, hstatus]
    rfl

/-- Cycles counted and dots run from `s` to `u` stand one to three (rule R463). -/
structure Paid (s u : State) : Prop where
  cycles : s.cpu.cycles ≤ u.cpu.cycles
  ticks : u.ppu.ticks + 3 * s.cpu.cycles = s.ppu.ticks + 3 * u.cpu.cycles

/-- An interrupt entry pays its 7 cycles with 21 dots (rule R492). -/
theorem paid_entered {s t : State} (hcpu : t.cpu.cycles = s.cpu.cycles) (hticks : t.ppu.ticks = s.ppu.ticks)
    (ret : Word) (status : Byte) (vector : Nat) : Paid s (ppuTicks 21 (entered t ret status vector 7)) := by
  have hcycles : (entered t ret status vector 7).cpu.cycles = s.cpu.cycles + 7 := by rw [← hcpu]; rfl
  have hcounted : (entered t ret status vector 7).ppu.ticks = s.ppu.ticks := by rw [← hticks]; rfl
  generalize entered t ret status vector 7 = v at hcycles hcounted
  have f := ppuTicks_frame 21 v
  refine ⟨?_, ?_⟩
  · rw [f.cpu]
    omega
  · rw [f.cpu, ppuTicks_ticks]
    omega

theorem interruptCheck_paid {s u : State} (h : interruptCheck s = .ok () u) : Paid s u := by
  cases hnmi : s.nmiPending with
  | true =>
    rw [interruptCheck_nmi hnmi] at h
    rw [← (Res.ok.inj h).2]
    exact paid_entered (s := s) (t := (dropIrqLevel s).setNmiPending false) rfl rfl _ _ _
  | false =>
    by_cases hirq : irqLevel s = true ∧ s.cpu.i = false
    · rw [interruptCheck_irq hnmi hirq.1 hirq.2] at h
      rw [← (Res.ok.inj h).2]
      exact paid_entered (s := s) (t := dropIrqLevel s) rfl rfl _ _ _
    · rw [interruptCheck_none hnmi (by simpa [imp_iff_not_or] using hirq)] at h
      obtain ⟨-, rfl⟩ := Res.ok.inj h
      exact ⟨Nat.le_refl _, rfl⟩

/-- The end of a step pays the instruction's cycles and those of an interrupt entry (rule R462). -/
theorem finishStep_paid {s t u : State} (h : finishStep s t = .next u) (hcycles : s.cpu.cycles ≤ t.cpu.cycles) :
    t.cpu.cycles ≤ u.cpu.cycles ∧ u.ppu.ticks + 3 * s.cpu.cycles = t.ppu.ticks + 3 * u.cpu.cycles := by
  obtain ⟨_, hcheck⟩ := Res.outcome_eq_next.1 h
  obtain ⟨hle, hpaid⟩ := interruptCheck_paid hcheck
  rw [(ppuTicks_frame _ t).cpu] at hle hpaid
  rw [ppuTicks_ticks] at hpaid
  exact ⟨hle, by omega⟩

/-- The cycles column of rule R126 is nowhere 0. -/
theorem rowOf_base_pos (i : Instr) : 0 < (rowOf i).base := by
  cases i <;> exact Nat.succ_pos _

/-- An instruction that answers costs its base cycles, the page-crossing cycle and what its operation counts (rules
R126, R150). -/
theorem exec_eq_next_cost {i : Instr} {s t : State} (h : exec i s = .next t) :
    ∃ r s1 n s2, resolve s i.operand = .ok r s1 ∧ (rowOf i).op r.target s1 = .ok n s2 ∧
      t = s2.addCycles ((rowOf i).base + ((rowOf i).pagePenalty && r.crossed).toNat + n) := by
  obtain ⟨r, s1, n, s2, _, hr, hop, -⟩ := exec_eq_next h
  rw [exec_of_op_ok hr hop] at h
  exact ⟨r, s1, n, s2, hr, hop, (Host.Outcome.next.inj h).symm⟩

/-- Every instruction takes cycles. -/
theorem exec_cycles_lt {i : Instr} {s t : State} (h : exec i s = .next t) : s.cpu.cycles < t.cpu.cycles := by
  obtain ⟨r, s1, n, s2, hr, hop, rfl⟩ := exec_eq_next_cost h
  have hle := ((resolve_moves s _ _ _ hr).trans (rowOf_moves i _ _ _ _ hop)).cycles
  have hbase := rowOf_base_pos i
  show s.cpu.cycles < s2.cpu.cycles + ((rowOf i).base + ((rowOf i).pagePenalty && r.crossed).toNat + n)
  omega

/-- Settles O57: fetch and instruction run no dot, the end of the step pays their cycles, and every row costs some. -/
theorem clockRatio : Obligations.ClockRatio := by
  refine ⟨fun s u hs h => ?_, fun s u h => ?_, by decide +kernel⟩
  all_goals
    obtain ⟨i, s1, t, hfetch, hexec, hfinish⟩ := step_eq_next h
    have hlt := exec_cycles_lt hexec
    obtain ⟨hle, hpaid⟩ := finishStep_paid hfinish hlt.le
    have hcpu := fetchInstr_cpu hfetch
    have hticks : t.ppu.ticks = s.ppu.ticks := (exec_moves hexec).ticks.trans (fetchInstr_moves s i s1 hfetch).ticks
    rw [hcpu] at hlt hpaid
    omega

/-- Settles O6: the fetch of bytes in plain memory leaves the state, and `exec` is never refused. -/
theorem stepRunsInstruction : Obligations.StepRunsInstruction := by
  intro s i hs hi hbytes
  have hstep := step_of_fetch hs (fetchInstr_of_holds hi hbytes)
  refine ⟨fun t ht => ?_, fun f hf => ?_, exec_ne_refused i s⟩
  · rw [hstep, ht]
    rfl
  · rw [hstep, hf]
    rfl

/-- The one row that reset has drawn lists its 20 pixels once each (rules R61, R533). -/
theorem reset_frameWf : FrameWf State.reset.ppu.frame := by
  refine ⟨⟨by decide, trivial⟩, fun r hr => ?_⟩
  obtain rfl := List.mem_singleton.1 hr
  simp [List.range, List.range.loop, fallingBelow]

/-- Settles O56: empty stores, counters at 0 and 21, and 21 dots for 7 cycles. -/
theorem resetSatisfiesInvariant : Obligations.ResetSatisfiesInvariant :=
  ⟨⟨rfl, rfl, rfl, rfl, rfl, rfl, rfl⟩, ⟨by decide, by decide, by decide, by decide, reset_frameWf⟩, rfl, rfl, rfl⟩

end Sys2Proof.Machine
end

section
/-! PROOFS. The cost of an instruction (rules R150, R164, R165, R260, R545): its row, the page crossing, a branch's own
cycles and the stall of OAM DMA. -/

namespace Sys2Proof.Machine

/-- A row of the table is the row of any instruction with its opcode byte (rule R126). -/
theorem eq_tableRowOf {r : TableRow} {i : Instr} (hr : r ∈ dispatchTable) (hop : r.op = opcodeOf i) :
    r = tableRowOf i :=
  List.inj_on_of_nodup_map dispatchTable_op_nodup hr (tableRowOf_mem i) hop

/-- The mode function's `crossed` is that of the spec (rules R158, R159, R162). -/
theorem effective_crossed {s t : State} {o : Operand} {r : Resolved} (h : effective s o = .ok r t) :
    r.crossed = crosses s o := by
  cases ho : operandAddr s o with
  | some ea =>
    rw [effective_eq ho] at h
    cases h
    rfl
  | none =>
    cases o with
    | imp | acc | imm _ | rel _ =>
      cases h
      rfl
    | ind a =>
      obtain ⟨w, u, -, h⟩ := Res.bind_eq_ok.1 h
      cases h
      rfl
    | zp _ | zpx _ | zpy _ | abs _ | absx _ | absy _ | indx _ | indy _ => cases ho

/-- The target's address is that of OAM DMA's register (rule R77). -/
def Target.isDma : Target → Bool
  | .mem ea | .imm ea _ => ea == 0x4014
  | .acc | .none => false

/-- What an instruction stores to 0x4014, in the spec's words (rules R77, R166). -/
theorem storeAddr_dma_iff {i : Instr} {s t : State} {r : Resolved} (h : effective s i.operand = .ok r t) :
    storeAddr s i = some 0x4014 ↔ (storing i && r.target.isDma) = true := by
  obtain ⟨hmem, himm⟩ := target_of_operand h
  cases hs : storing i with
  | false => simp [storeAddr, hs]
  | true =>
    rw [storeAddr, hs, if_pos rfl, Bool.true_and]
    cases ho : operandAddr s i.operand with
    | some ea =>
      rw [effective_eq ho] at h
      cases h
      simp [Target.isDma]
    | none =>
      cases ht : r.target with
      | mem ea => simpa [ho] using hmem ea ht (by rw [hs, Bool.or_true])
      | imm ea v => exact absurd (hs.symm.trans (himm ea v ht)) Bool.true_eq_false.mp
      | acc | none => simp [Target.isDma]

/-- A write costs the stall of OAM DMA, or nothing (rules R44, R77). -/
theorem memWrite_cycles {s t : State} {a : Word} {v : Byte} {x : Unit} (h : memWrite s a v = .ok x t) :
    t.cpu.cycles = s.cpu.cycles + if a == 0x4014 then s.params.oamDmaStall else 0 := by
  by_cases ha : a = 0x4014
  · subst ha
    rw [memWrite_dma] at h
    obtain ⟨_, u, hu, h⟩ := Res.bind_eq_ok.1 h
    cases h
    have hparams := (oamDmaLoop_moves _ _ _ _ _ _ hu).params
    show u.cpu.cycles + u.params.oamDmaStall = _
    rw [oamDmaLoop_cpu hu, hparams]
    rfl
  · have hne : a.toNat ≠ 0x4014 := fun h => ha (BitVec.eq_of_toNat_eq h)
    rw [beq_false_of_ne ha, if_neg Bool.false_ne_true, Nat.add_zero]
    unfold memWrite at h
    rw [if_neg hne] at h
    split_ifs at h
    · cases h; rfl
    · cases h; rfl
    · cases h; rfl
    · rw [ppuRegWrite_cpu h]
    · cases h; rfl

theorem readTarget_cpu {s s' : State} {t : Target} {v : Byte} (h : readTarget s t = .ok v s') : s'.cpu = s.cpu := by
  cases t with
  | mem ea => exact memRead_cpu h
  | acc | none | imm _ _ =>
    cases h
    rfl

theorem writeTarget_cycles {s s' : State} {t : Target} {v : Byte} {x : Unit} (h : writeTarget s t v = .ok x s') :
    s'.cpu.cycles = s.cpu.cycles + if t.isDma then s.params.oamDmaStall else 0 := by
  cases t with
  | mem ea | imm ea _ => exact memWrite_cycles h
  | acc | none =>
    cases h
    rfl

/-- An operation that answers no extra cycle and counts the stall of OAM DMA alone, where it stores. -/
def Operation.Charges (op : Operation) (stores : Bool) : Prop :=
  ∀ t s n s', op t s = .ok n s' → n = 0 ∧
    s'.cpu.cycles = s.cpu.cycles + if stores && t.isDma then s.params.oamDmaStall else 0

section
variable {stores : Bool}

theorem Operation.Charges.read {k : Byte → State → State} (hs : stores = false)
    (hk : ∀ v s, (k v s).cpu.cycles = s.cpu.cycles) :
    Operation.Charges (fun t s => (readTarget s t).bind fun v s1 => .ok 0 (k v s1)) stores := by
  subst hs
  intro t s n s' h
  obtain ⟨v, u, hu, h⟩ := Res.bind_eq_ok.1 h
  cases h
  exact ⟨rfl, by rw [hk, readTarget_cpu hu]; rfl⟩

theorem Operation.Charges.store {value : State → Byte} (hs : stores = true) :
    Operation.Charges (fun t s => storeOp (value s) t s) stores := by
  subst hs
  intro t s n s' h
  obtain ⟨x, u, hu, h⟩ := Res.bind_eq_ok.1 h
  cases h
  exact ⟨rfl, writeTarget_cycles hu⟩

theorem Operation.Charges.shift {g : ShiftFn} {after : State → Byte → State} (hs : stores = true)
    (hk : ∀ s r, (after s r).cpu.cycles = s.cpu.cycles) : (shiftOp g after).Charges stores := by
  subst hs
  intro t s n s' h
  obtain ⟨m, u, hu, h⟩ := Res.bind_eq_ok.1 h
  obtain ⟨x, w, hw, h⟩ := Res.bind_eq_ok.1 h
  cases h
  have hcycles := writeTarget_cycles hw
  rw [State.setC_cycles, State.setC_params] at hcycles
  exact ⟨rfl, by rw [hk, hcycles, readTarget_cpu hu, (readTarget_moves _ _ _ _ hu).params]; rfl⟩

theorem Operation.Charges.step {k : Byte} {after : State → Byte → State} (hs : stores = true)
    (hk : ∀ s r, (after s r).cpu.cycles = s.cpu.cycles) : (stepOp k after).Charges stores := by
  subst hs
  intro t s n s' h
  obtain ⟨m, u, hu, h⟩ := Res.bind_eq_ok.1 h
  obtain ⟨x, w, hw, h⟩ := Res.bind_eq_ok.1 h
  cases h
  exact ⟨rfl, by rw [hk, writeTarget_cycles hw, readTarget_cpu hu, (readTarget_moves _ _ _ _ hu).params]; rfl⟩

theorem Operation.Charges.always {op : Operation} {k : Target → State → State} (hs : stores = false)
    (h : ∀ t s, op t s = .ok 0 (k t s)) (hk : ∀ t s, (k t s).cpu.cycles = s.cpu.cycles) : op.Charges stores := by
  subst hs
  intro t s n s' hop
  rw [h] at hop
  cases hop
  exact ⟨rfl, hk t s⟩

end

theorem opSlo_charges : opSlo.Charges true := .shift rfl fun _ _ => rfl
theorem opRla_charges : opRla.Charges true := .shift rfl fun _ _ => rfl
theorem opSre_charges : opSre.Charges true := .shift rfl fun _ _ => rfl
theorem opRra_charges : opRra.Charges true := .shift rfl fun _ _ => rfl
theorem opDcp_charges : opDcp.Charges true := .step rfl fun _ _ => rfl
theorem opIsb_charges : opIsb.Charges true := .step rfl fun _ _ => rfl

/-- Every instruction but the branches charges so. -/
theorem rowOf_charges (i : Instr) (h : ∀ d, i.operand ≠ .rel d) : (rowOf i).op.Charges (storing i) := by
  cases i with
  | ldaIndx | ldaZp | ldaImm | ldaAbs | ldaIndy | ldaZpx | ldaAbsy | ldaAbsx
  | ldxImm | ldxZp | ldxAbs | ldxZpy | ldxAbsy
  | ldyImm | ldyZp | ldyAbs | ldyZpx | ldyAbsx
  | adcIndx | adcZp | adcImm | adcAbs | adcIndy | adcZpx | adcAbsy | adcAbsx
  | sbcIndx | sbcZp | sbcImm | sbcAbs | sbcIndy | sbcZpx | sbcAbsy | sbcAbsx
  | andIndx | andZp | andImm | andAbs | andIndy | andZpx | andAbsy | andAbsx
  | oraIndx | oraZp | oraImm | oraAbs | oraIndy | oraZpx | oraAbsy | oraAbsx
  | eorIndx | eorZp | eorImm | eorAbs | eorIndy | eorZpx | eorAbsy | eorAbsx
  | cmpIndx | cmpZp | cmpImm | cmpAbs | cmpIndy | cmpZpx | cmpAbsy | cmpAbsx
  | cpxImm | cpxZp | cpxAbs | cpyImm | cpyZp | cpyAbs | bitZp | bitAbs
  | laxIndx | laxZp | laxAbs | laxIndy | laxZpy | laxAbsy | usbcImm => exact .read rfl fun _ _ => rfl
  | staIndx | staZp | staAbs | staIndy | staZpx | staAbsy | staAbsx
  | stxZp | stxAbs | stxZpy | styZp | styAbs | styZpx | saxIndx | saxZp | saxAbs | saxZpy => exact .store rfl
  | aslZp | aslAcc | aslAbs | aslZpx | aslAbsx | lsrZp | lsrAcc | lsrAbs | lsrZpx | lsrAbsx
  | rolZp | rolAcc | rolAbs | rolZpx | rolAbsx | rorZp | rorAcc | rorAbs | rorZpx | rorAbsx =>
    exact .shift rfl fun _ _ => rfl
  | sloIndx | sloZp | sloAbs | sloIndy | sloZpx | sloAbsy | sloAbsx => exact opSlo_charges
  | rlaIndx | rlaZp | rlaAbs | rlaIndy | rlaZpx | rlaAbsy | rlaAbsx => exact opRla_charges
  | sreIndx | sreZp | sreAbs | sreIndy | sreZpx | sreAbsy | sreAbsx => exact opSre_charges
  | rraIndx | rraZp | rraAbs | rraIndy | rraZpx | rraAbsy | rraAbsx => exact opRra_charges
  | incZp | incAbs | incZpx | incAbsx | decZp | decAbs | decZpx | decAbsx => exact .step rfl fun _ _ => rfl
  | dcpIndx | dcpZp | dcpAbs | dcpIndy | dcpZpx | dcpAbsy | dcpAbsx => exact opDcp_charges
  | isbIndx | isbZp | isbAbs | isbIndy | isbZpx | isbAbsy | isbAbsx => exact opIsb_charges
  | bcc d | bcs d | beq d | bne d | bmi d | bpl d | bvc d | bvs d => exact absurd rfl (h d)
  | pha => exact .always rfl opPha_eq fun _ _ => rfl
  | php => exact .always rfl opPhp_eq fun _ _ => rfl
  | pla => exact .always rfl opPla_eq fun _ _ => rfl
  | plp => exact .always rfl opPlp_eq fun _ _ => rfl
  | jsrAbs => exact .always rfl opJsr_eq fun _ _ => rfl
  | rts => exact .always rfl opRts_eq fun _ _ => rfl
  | rti => exact .always rfl opRti_eq fun _ _ => rfl
  | brk => exact .always rfl opBrk_eq fun _ _ => rfl
  | tax | tay | txa | tya | tsx | txs | inx | iny | dex | dey | jmpAbs | jmpInd | clc | sec | cli | sei | cld | sed
  | clv | nop | unopZp04 | unopAbs0C | unopZpx14 | unopImp1A | unopAbsx1C | unopZpx34 | unopImp3A | unopAbsx3C
  | unopZp44 | unopZpx54 | unopImp5A | unopAbsx5C | unopZp64 | unopZpx74 | unopImp7A | unopAbsx7C | unopImm80
  | unopImm82 | unopImm89 | unopImmC2 | unopZpxD4 | unopImpDA | unopAbsxDC | unopImmE2 | unopZpxF4 | unopImpFA
  | unopAbsxFC => exact .always rfl (fun _ _ => rfl) fun _ _ => rfl

/-- The instructions in relative mode are the branches (rules R163, R260). -/
theorem rowOf_of_rel {i : Instr} {d : Byte} (h : i.operand = .rel d) :
    rowOf i = ⟨2, false, branchOp fun c => taken c i⟩ := by
  cases i with
  | bcc | bcs | beq | bne | bmi | bpl | bvc | bvs => rfl
  | _ => exact nomatch h

theorem branched_cycles (cond : Bool) (d : Byte) (s : State) :
    (branched cond d s).cpu.cycles = s.cpu.cycles + 2 +
      (if cond then (if otherPage (s.cpu.pc + 2) (branchTarget s d) then 2 else 1) else 0) := by
  unfold branched
  cases cond with
  | false => rfl
  | true =>
    cases otherPage (s.cpu.pc + 2) (branchTarget s d) with
    | false => rfl
    | true => rfl

/-- Settles O39: a branch by its own rule, every other instruction by its row and what its operation charges. -/
theorem instructionCost : Obligations.InstructionCost := by
  intro i s t r hr hop h
  obtain rfl := eq_tableRowOf hr hop
  show t.cpu.cycles = s.cpu.cycles + (rowOf i).base + ((rowOf i).pagePenalty && crosses s i.operand).toNat +
    branchExtra s i + _
  by_cases hrel : ∃ d, i.operand = .rel d
  · obtain ⟨d, hd⟩ := hrel
    rw [exec_branch hd (rowOf_of_rel hd) s] at h
    have hstore : storeAddr s i = none := by
      rw [storeAddr, hd, operandAddr, ite_self]
    obtain rfl := Host.Outcome.next.inj h
    rw [branched_cycles, rowOf_of_rel hd, branchExtra, hd, hstore]
    rfl
  · obtain ⟨r, s1, n, s2, hresolve, hop, rfl⟩ := exec_eq_next_cost h
    obtain ⟨r', u, heff, hok⟩ := Res.bind_eq_ok.1 hresolve
    cases hok
    obtain ⟨rfl, hcycles⟩ := rowOf_charges i (fun d hd => hrel ⟨d, hd⟩) _ _ _ _ hop
    have hextra : branchExtra s i = 0 := by
      unfold branchExtra
      split
      · next d hd => exact absurd ⟨d, hd⟩ hrel
      · rfl
    have hparams : u.params = s.params := (effective_moves s _ _ _ heff).params
    have hcpu : u.cpu.cycles = s.cpu.cycles := by rw [effective_cpu heff]
    have hstall : s2.cpu.cycles = s.cpu.cycles + if storeAddr s i = some 0x4014 then s.params.oamDmaStall else 0 := by
      rw [hcycles, ← hparams, ← hcpu]
      simp only [storeAddr_dma_iff heff]
      rfl
    show s2.cpu.cycles + _ = _
    rw [hstall, effective_crossed heff, hextra]
    omega

end Sys2Proof.Machine
end

section
/-! PROOFS. Fatal conditions (rules R150, R153, R495, R497): what stands when a read, a store, the fetch or an
instruction is fatal, and that the interrupt check never is. -/

namespace Sys2Proof.Machine

/-- What no part of a step changes before a fatal condition: everything but PC, C, the registers a device access touches
and the host's side (rule R495). -/
structure KeptByFatal (s t : State) : Prop where
  ticks : t.ppu.ticks = s.ppu.ticks
  scanline : t.ppu.scanline = s.ppu.scanline
  dot : t.ppu.dot = s.ppu.dot
  params : t.params = s.params
  cart : t.cart = s.cart
  wram : t.wram = s.wram
  sram : t.sram = s.sram
  nmiPending : t.nmiPending = s.nmiPending
  cpu : t.cpu = { s.cpu with pc := t.cpu.pc, c := t.cpu.c }

theorem KeptByFatal.refl (s : State) : KeptByFatal s s := ⟨rfl, rfl, rfl, rfl, rfl, rfl, rfl, rfl, rfl⟩

theorem KeptByFatal.trans {s t u : State} (h : KeptByFatal s t) (h' : KeptByFatal t u) : KeptByFatal s u :=
  ⟨h'.ticks.trans h.ticks, h'.scanline.trans h.scanline, h'.dot.trans h.dot, h'.params.trans h.params,
    h'.cart.trans h.cart, h'.wram.trans h.wram, h'.sram.trans h.sram, h'.nmiPending.trans h.nmiPending,
    by rw [h'.cpu, h.cpu]⟩

theorem KeptByFatal.setPc {s t : State} (h : KeptByFatal s t) (pc : Word) : KeptByFatal s (t.setPc pc) :=
  h.trans ⟨rfl, rfl, rfl, rfl, rfl, rfl, rfl, rfl, rfl⟩

theorem KeptByFatal.setC {s t : State} (h : KeptByFatal s t) (c : Bool) : KeptByFatal s (t.setC c) :=
  h.trans ⟨rfl, rfl, rfl, rfl, rfl, rfl, rfl, rfl, rfl⟩

/-- The state a result carries, answer or fatal condition. -/
def Res.state {α : Type} : Res α → State
  | .ok _ t => t
  | .fatal _ t => t

/-- A sequence carries the first part's state if that is fatal, and else the second's. -/
theorem KeptByFatal.bind {α β : Type} {s : State} {r : Res α} {k : α → State → Res β} (hr : KeptByFatal s r.state)
    (hk : ∀ a t, r = .ok a t → KeptByFatal t (k a t).state) : KeptByFatal s (r.bind k).state := by
  cases r with
  | ok a t => exact hr.trans (hk a t rfl)
  | fatal f t => exact hr

theorem controllerRead_kept (s : State) : KeptByFatal s (controllerRead s).2 := by
  unfold controllerRead
  split <;> exact ⟨rfl, rfl, rfl, rfl, rfl, rfl, rfl, rfl, rfl⟩

theorem ppuRegRead_kept (s : State) (r : Nat) : KeptByFatal s (ppuRegRead s r).2 := by
  unfold ppuRegRead readData
  split_ifs
  · exact ⟨rfl, rfl, rfl, rfl, rfl, rfl, rfl, rfl, rfl⟩
  · exact .refl s
  · dsimp only
    split_ifs <;> exact ⟨rfl, rfl, rfl, rfl, rfl, rfl, rfl, rfl, rfl⟩
  · exact .refl s

/-- A read, answered or fatal (rules R71, R78). -/
theorem memRead_kept (s : State) (a : Word) : KeptByFatal s (memRead s a).state := by
  unfold memRead
  split_ifs
  · exact .refl s
  · exact .refl s
  · exact .refl s
  · exact controllerRead_kept s
  · exact .refl s
  · exact ppuRegRead_kept s _
  · exact .refl s

theorem memRead16_kept (s : State) (a : Word) : KeptByFatal s (memRead16 s a).state :=
  (memRead_kept s a).bind fun _ t _ => (memRead_kept t _).bind fun _ u _ => .refl u

theorem readPointer_kept (s : State) (ptr : Word) : KeptByFatal s (readPointer s ptr).state :=
  (memRead_kept s ptr).bind fun _ t _ => (memRead_kept t _).bind fun _ u _ => .refl u

/-- The mode function, answered or fatal (rules R150-R163). -/
theorem resolve_kept (s : State) (o : Operand) : KeptByFatal s (resolve s o).state := by
  have heff : KeptByFatal s (effective s o).state := by
    cases o with
    | ind _ | indx _ | indy _ => exact (readPointer_kept s _).bind fun _ u _ => .refl u
    | imp | acc | imm _ | zp _ | zpx _ | zpy _ | abs _ | absx _ | absy _ | rel _ => exact .refl s
  exact heff.bind fun _ t _ => (KeptByFatal.refl t).setPc _

/-- The fetch, answered or fatal (rules R123, R150, R153). -/
theorem fetchInstr_kept (s : State) : KeptByFatal s (fetchInstr s).state := by
  unfold fetchInstr
  refine (memRead_kept s _).bind fun op t _ => ?_
  split
  · exact .refl t
  · exact .refl t
  · have hread := memRead_kept t (s.cpu.pc + 1)
    cases hb : memRead t (s.cpu.pc + 1) with
    | ok b u =>
      rw [hb] at hread
      exact hread
    | fatal f u =>
      rw [hb] at hread
      exact hread.setPc _
  · exact (memRead16_kept t _).bind fun _ u _ => .refl u

/-- The copy of OAM DMA, answered or fatal: it writes sprite memory alone (rule R77). -/
theorem oamDmaLoop_kept (n : Nat) (src : Word) (dst : Byte) (s : State) :
    KeptByFatal s (oamDmaLoop n src dst s).state := by
  induction n generalizing src dst s with
  | zero => exact .refl s
  | succ n ih =>
    refine (memRead_kept s src).bind fun b t _ => ?_
    have hoam : KeptByFatal t (withOam t (t.ppu.oam.write dst.toNat b)) := ⟨rfl, rfl, rfl, rfl, rfl, rfl, rfl, rfl, rfl⟩
    exact hoam.trans (ih _ _ _)

/-- A fatal write has written sprite memory at most (rules R72, R77, R80, R92). -/
theorem memWrite_fatal_kept {s t : State} {a : Word} {v : Byte} {f : Fatal} (h : memWrite s a v = .fatal f t) :
    KeptByFatal s t := by
  unfold memWrite at h
  split_ifs at h
  · cases h
    exact .refl s
  · cases h
    exact .refl s
  · have hloop := oamDmaLoop_kept 256 (v ++ 0x00#8) s.ppu.oamAddr s
    rcases Res.bind_eq_fatal.1 h with h | ⟨x, u, -, h⟩
    · rw [h] at hloop
      exact hloop
    · cases h
  · unfold ppuRegWrite at h
    split_ifs at h
    rcases Res.bind_eq_fatal.1 h with h | ⟨x, u, -, h⟩
    · unfold ppuWrite at h
      dsimp only at h
      split_ifs at h
      cases h
      exact .refl s
    · cases h

theorem readTarget_kept (s : State) (t : Target) : KeptByFatal s (readTarget s t).state := by
  cases t with
  | mem ea => exact memRead_kept s ea
  | acc | none | imm _ _ => exact .refl s

theorem writeTarget_fatal_kept {s u : State} {t : Target} {v : Byte} {f : Fatal} (h : writeTarget s t v = .fatal f u) :
    KeptByFatal s u := by
  cases t with
  | mem ea | imm ea _ => exact memWrite_fatal_kept h
  | acc | none => cases h

/-- A fatal operation has read its operand and written C at most (rules R166, R495). -/
theorem Access.fatal_kept {fp : Footprint} {p : Nat} {op : Operation} (hop : Access fp p op) {t : Target} {s u : State}
    {f : Fatal} (h : op t s = .fatal f u) : KeptByFatal s u := by
  cases hop with
  | read _ _ =>
    rcases Res.bind_eq_fatal.1 h with h | ⟨_, _, -, h⟩
    · have hread := readTarget_kept s t
      rw [h] at hread
      exact hread
    · cases h
  | store _ =>
    rcases Res.bind_eq_fatal.1 h with h | ⟨_, _, -, h⟩
    · exact writeTarget_fatal_kept h
    · cases h
  | shift _ _ _ =>
    have hread := readTarget_kept s t
    rcases Res.bind_eq_fatal.1 h with h | ⟨m, w, hm, h⟩
    · rw [h] at hread
      exact hread
    · rw [hm] at hread
      rcases Res.bind_eq_fatal.1 h with h | ⟨_, _, -, h⟩
      · exact (hread.setC _).trans (writeTarget_fatal_kept h)
      · cases h
  | step _ _ _ =>
    have hread := readTarget_kept s t
    rcases Res.bind_eq_fatal.1 h with h | ⟨m, w, hm, h⟩
    · rw [h] at hread
      exact hread
    · rw [hm] at hread
      rcases Res.bind_eq_fatal.1 h with h | ⟨_, _, -, h⟩
      · exact hread.trans (writeTarget_fatal_kept h)
      · cases h
  | push hpush =>
    obtain ⟨_, n, s', -, hok, -⟩ := hpush t s
    rw [hok] at h
    cases h

/-- A result whose outcome is a fault carries that fatal condition (rule R495). -/
theorem Res.outcome_eq_fault {α : Type} {r : Res α} {x : Fault} (h : r.outcome = .fault x) :
    ∃ f u, r = .fatal f u ∧ x = .fatal f { u with fault := some f } := by
  cases r with
  | ok a t => cases h
  | fatal f u =>
    cases h
    exact ⟨f, u, rfl, rfl⟩

/-- An instruction that faults was fatal in its mode function or its operation (rules R150, R495). -/
theorem exec_fault_kept {i : Instr} {s : State} {x : Fault} (h : exec i s = .fault x) :
    ∃ f u, x = .fatal f { u with fault := some f } ∧ KeptByFatal s u := by
  rw [exec_eq_run] at h
  obtain ⟨f, u, hfatal, rfl⟩ := Res.outcome_eq_fault h
  refine ⟨f, u, rfl, ?_⟩
  have hresolve := resolve_kept s i.operand
  rcases Res.bind_eq_fatal.1 hfatal with hfatal | ⟨r, s1, hr, hfatal⟩
  · rw [hfatal] at hresolve
    exact hresolve
  · rw [hr] at hresolve
    rcases Res.bind_eq_fatal.1 hfatal with hfatal | ⟨_, _, -, hfatal⟩
    · exact hresolve.trans ((rowOf_access i).fatal_kept hfatal)
    · cases hfatal

/-- The interrupt check always answers (rules R492, R494). -/
theorem interruptCheck_answers (s : State) : ∃ t, interruptCheck s = .ok () t := by
  cases hnmi : s.nmiPending with
  | true => exact ⟨_, interruptCheck_nmi hnmi⟩
  | false =>
    by_cases hirq : irqLevel s = true ∧ s.cpu.i = false
    · exact ⟨_, interruptCheck_irq hnmi hirq.1 hirq.2⟩
    · exact ⟨_, interruptCheck_none hnmi (by simpa [imp_iff_not_or] using hirq)⟩

theorem finishStep_answers (s t : State) : ∃ u, finishStep s t = .next u := by
  obtain ⟨u, hu⟩ := interruptCheck_answers (ppuTicks (3 * (t.cpu.cycles - s.cpu.cycles)) t)
  exact ⟨u, by rw [finishStep, hu]; rfl⟩

/-- A step that ends in a fatal condition: the state is that of the fatal statement with the flag set (rule R495). -/
theorem step_eq_fatal {s t : State} {f : Fatal} (h : step s = .fault (.fatal f t)) :
    ∃ u, t = { u with fault := some f } ∧ KeptByFatal s u := by
  unfold step at h
  cases hs : s.fault with
  | some f' => simp [hs] at h
  | none =>
    have hfetch := fetchInstr_kept s
    cases hi : fetchInstr s with
    | fatal f' u =>
      rw [hi] at hfetch
      simp only [hs, hi] at h
      cases h
      exact ⟨u, rfl, hfetch⟩
    | ok i s1 =>
      rw [hi] at hfetch
      simp only [hs, hi] at h
      cases he : exec i s1 with
      | next t' =>
        obtain ⟨u, hu⟩ := finishStep_answers s1 t'
        rw [he, afterExec, hu] at h
        cases h
      | fault x =>
        obtain ⟨f', u, rfl, hkept⟩ := exec_fault_kept he
        rw [he, afterExec] at h
        cases h
        exact ⟨u, rfl, hfetch.trans hkept⟩
      | refused r => exact absurd he (exec_ne_refused i s1 r)

/-- No step is refused. -/
theorem step_ne_refused (s : State) (r : Refusal) : step s ≠ .refused r := by
  intro h
  unfold step at h
  cases hs : s.fault with
  | some f => simp [hs] at h
  | none =>
    cases hi : fetchInstr s with
    | fatal f u =>
      simp only [hs, hi] at h
      cases h
    | ok i s1 =>
      simp only [hs, hi] at h
      cases he : exec i s1 with
      | next t =>
        obtain ⟨u, hu⟩ := finishStep_answers s1 t
        rw [he, afterExec, hu] at h
        cases h
      | fault x =>
        rw [he] at h
        cases h
      | refused r' => exact exec_ne_refused i s1 r' he

/-- PC while the byte after the opcode is read, by the mode (rule R153). -/
theorem operandReadPc_eq (pc : Word) (o : Operand) :
    operandReadPc pc o = if modeOf o = .imm then pc + 2 else pc := by
  cases o <;> rfl

/-- ASL of a byte of program ROM has written C when its store is fatal (rules R80, R240, R495). -/
theorem exec_aslAbs_rom (s : State) {a : Word} (ha : 0x8000 ≤ a.toNat) :
    ∃ r : Byte, exec (.aslAbs a) s = faulted (.unimplemented .programRom a.toNat (some r))
      { s with cpu := { s.cpu with pc := s.cpu.pc + 3, c := (prgRead s.cart a.toNat).getLsbD 7 } } := by
  have hread : readTarget (past s (.abs a)) (.mem a) = .ok (prgRead s.cart a.toNat) (past s (.abs a)) := memRead_rom ha
  have hop : (rowOf (.aslAbs a)).op (.mem a) (past s (.abs a)) = .fatal
      (.unimplemented .programRom a.toNat (some (prgRead s.cart a.toNat <<< 1)))
      ((past s (.abs a)).setC ((prgRead s.cart a.toNat).getLsbD 7)) := by
    show shiftOp shiftAsl setZN _ _ = _
    rw [shiftOp, hread, Res.bind_ok]
    exact congrArg (fun r => Res.bind r _) (memWrite_rom ha)
  exact ⟨_, exec_of_op_fatal (i := .aslAbs a) (resolve_of_effective rfl) hop⟩

/-- Settles O7: the halted answer, the frame of a fatal step, and each place a step can be fatal. -/
theorem faultedStateIsFinal : Obligations.FaultedStateIsFinal := by
  refine ⟨fun s f hs => ?halted, fun s t f h => ?frame, fun s t f hs hread => ?opcode,
    fun s t u op mk f hs hop hform hread => ?byte, fun s t u op mk f hs hop hform hread => ?word,
    fun s t i f hs hi hbytes hexec => (stepRunsInstruction s i hs hi hbytes).2.1 _ hexec,
    fun s a ha => exec_aslAbs_rom s ha, step_ne_refused⟩
  case halted => simp [step, hs]
  case frame =>
    obtain ⟨u, rfl, hkept⟩ := step_eq_fatal h
    exact ⟨rfl, hkept.ticks, hkept.scanline, hkept.dot, hkept.params, hkept.cart, hkept.wram, hkept.sram,
      hkept.nmiPending, hkept.cpu⟩
  case opcode => exact step_of_fetch_fatal hs (by rw [fetchInstr, hread, Res.bind_fatal])
  case byte =>
    rw [step_of_fetch_fatal hs (fetchInstr_byte_fatal hop hform hread), operandReadPc_eq]
    rfl
  case word =>
    refine step_of_fetch_fatal hs ?_
    rw [fetchInstr, hop, Res.bind_ok, hform]
    dsimp only
    rw [hread, Res.bind_fatal]

end Sys2Proof.Machine
end

section
/-! PROOFS. Loading and power-on (rules R461, R470, R530-R534): the checks in their order, the dots of power-on with
rendering disabled, and the bytes the record and the drawn image give. -/

namespace Sys2Proof.Machine

/-! ### The dots of power-on (rules R530, R533) -/

/-- The frame after one dot of scanline 0 with rendering disabled (rules R430, R435, R436). -/
def backdropFrame (s : State) : Frame :=
  if s.ppu.dot = 0 then s.ppu.frame else frameSet s.ppu.frame 0 (s.ppu.dot - 1) (entryOf s 0x3F00)

/-- One dot of scanline 0 with rendering disabled, up to dot 256. -/
theorem ppuTick_backdrop {s : State} (h : disabled s) (hline : s.ppu.scanline = 0) (hdot : s.ppu.dot ≤ 256) :
    ppuTick s = { s with ppu := { s.ppu with
      frame := backdropFrame s, dot := s.ppu.dot + 1, ticks := s.ppu.ticks + 1 } } := by
  have hclear : ¬ (s.ppu.scanline = 261 ∧ s.ppu.dot = 1) := by omega
  have hskip : ¬ skips s := fun hs => by have := hs.1; omega
  obtain ⟨-, -, hothers, -⟩ := statusEvents s
  obtain ⟨hnmi, hhost, hflags⟩ := hothers (by omega)
  obtain ⟨hvblank, -, -⟩ := hflags hclear
  obtain ⟨hpixel, hidle, -, hrest⟩ := disabledRendering s h.1 h.2
  obtain ⟨hoverflow, hhit⟩ := hrest hclear
  obtain ⟨hline', hdot', hodd⟩ := (counterAdvance s (by omega) (by omega)).2.1 hskip (by omega)
  have hframe : (ppuTick s).ppu.frame = backdropFrame s := by
    by_cases hd : s.ppu.dot = 0
    · rw [backdropFrame, if_pos hd]
      exact ppuTick_frame_idle (by omega)
    · rw [backdropFrame, if_neg hd, ← hline]
      exact (ppuTick_visible_disabled h (by omega) (by omega) hdot).1
  rw [ppuTick_outside s, hnmi, hhost, ppuTick_ppu_disabled h, hframe, hline', hdot', hodd, hvblank, hhit, hoverflow]

/-- The frame after `k` dots of scanline 0. -/
def rowFrame (s : State) : Nat → Frame
  | 0 => s.ppu.frame
  | k + 1 => if k = 0 then rowFrame s k else frameSet (rowFrame s k) 0 (k - 1) (entryOf s 0x3F00)

theorem frameGet_rowFrame (s : State) (k y x : Nat) :
    frameGet (rowFrame s k) y x =
      if y = 0 ∧ x + 1 < k then some (entryOf s 0x3F00) else frameGet s.ppu.frame y x := by
  induction k with
  | zero => rw [if_neg (by omega), rowFrame]
  | succ k ih =>
    by_cases hk : k = 0
    · subst hk
      rw [rowFrame, if_pos rfl, if_neg (by omega), rowFrame]
    · rw [rowFrame, if_neg hk, frameGet_set, ih]
      by_cases hnew : 0 = y ∧ k - 1 = x
      · rw [if_pos hnew, if_pos (by omega)]
      · rw [if_neg hnew]
        exact if_congr (by omega) rfl rfl

/-- The state after `k` dots of scanline 0, from dot 0. -/
def afterDots (s : State) (k : Nat) : State :=
  { s with ppu := { s.ppu with frame := rowFrame s k, dot := k, ticks := s.ppu.ticks + k } }

theorem ppuTicks_eq_afterDots {s : State} (h : disabled s) (hline : s.ppu.scanline = 0) (hdot : s.ppu.dot = 0) {k : Nat}
    (hk : k ≤ 257) : ppuTicks k s = afterDots s k := by
  induction k with
  | zero =>
    show s = { s with ppu := { s.ppu with frame := s.ppu.frame, dot := 0, ticks := s.ppu.ticks } }
    rw [← hdot]
  | succ k ih =>
    rw [ppuTicks_succ, ih (by omega), ppuTick_backdrop (s := afterDots s k) h hline (show k ≤ 256 by omega)]
    rfl

/-- Power-on before its dots (rules R530-R533). -/
def resetStart (cart : Cartridge) (params : Params) (mode : ResetPcMode) (ram : RamPowerOn) (host : HostPort) : State :=
  ((resetElements cart params ram host).setPc (resetPc cart mode)).addCycles 7

section
variable (cart : Cartridge) (params : Params) (mode : ResetPcMode) (ram : RamPowerOn) (host : HostPort)

theorem disabled_resetStart : disabled (resetStart cart params mode ram host) := by
  show (0x00#8).getLsbD 3 = false ∧ (0x00#8).getLsbD 4 = false
  decide

/-- Power-on after its 21 dots (rules R530, R533). -/
theorem powerOn_eq : powerOn cart params mode ram host = afterDots (resetStart cart params mode ram host) 21 :=
  ppuTicks_eq_afterDots (disabled_resetStart cart params mode ram host) rfl rfl (by decide)

theorem powerOnPpu_fields {p : Ppu} {oam palette nametable : Memory} {frame : Frame}
    (h : p = powerOnPpu oam palette nametable frame) : p = powerOnPpu p.oam p.palette p.nametable p.frame := by
  subst h
  rfl

/-- Its picture engine (rules R531, R533). -/
theorem powerOn_ppu : (powerOn cart params mode ram host).ppu =
    powerOnPpu (Memory.ofCells 256 (drawnImage ram).oam) (Memory.ofCells 32 (drawnImage ram).palette)
      (Memory.ofCells 4096 (drawnImage ram).nametable) (rowFrame (resetStart cart params mode ram host) 21) := by
  rw [powerOn_eq, afterDots]
  generalize rowFrame (resetStart cart params mode ram host) 21 = frame
  rfl

/-- Its frame: the backdrop in 20 pixels (rule R533). -/
theorem frameGet_powerOn (y x : Nat) : frameGet (powerOn cart params mode ram host).ppu.frame y x =
    if y = 0 ∧ x < 20 then
      some { index := ((powerOn cart params mode ram host).ppu.palette.read 0).setWidth 6, emphasis := 0 }
    else none := by
  have hmask : (resetStart cart params mode ram host).ppu.mask = 0x00#8 := rfl
  have hgray : (0x00#8).getLsbD 0 = false := by decide
  rw [powerOn_eq, afterDots, frameGet_rowFrame, entryOf_backdrop, hmask, hgray]
  exact if_congr (by omega) rfl rfl

end

/-! ### The bytes (rules R461, R531) -/

/-- A drawn image's store reads as its cells say, the last one for an offset winning (rule R531). -/
theorem read_ofCells {size k : Nat} (hk : k < size) (cells : List Host.Cell) :
    (Memory.ofCells size cells).read k = drawnByte cells k := by
  induction cells using List.reverseRecOn with
  | nil => rfl
  | append_singleton cells c ih =>
    have hwf := Memory.wf_ofCells size cells
    have hsnoc : Memory.ofCells size (cells ++ [c]) =
        if c.1 < size then (Memory.ofCells size cells).write c.1 c.2 else Memory.ofCells size cells := by
      rw [Memory.ofCells, List.foldl_append]
      rfl
    have hdrawn : drawnByte (cells ++ [c]) k = if c.1 = k then c.2 else drawnByte cells k := by
      by_cases hc : c.1 = k <;> simp [drawnByte, hc]
    rw [hsnoc, hdrawn]
    by_cases hc : c.1 < size
    · rw [if_pos hc, Memory.read_write hwf, ih]
    · rw [if_neg hc, if_neg (by omega), ih]

/-- A loaded ROM reads as its bytes (rule R461). -/
theorem read_ofBytes_eq_getElem? {bs : List Byte} {k : Nat} (h : k < bs.length) :
    some ((Memory.ofBytes 0 bs).read k) = bs[k]? := by
  rw [Memory.read_ofBytes bs (Nat.zero_le k), Nat.sub_zero, List.getD_eq_getElem?_getD, List.getElem?_eq_getElem h,
    Option.getD_some]

/-! ### The checks of a load (rule R470) -/

theorem prgSizeOf_eq_none_iff (n : Nat) : prgSizeOf n = none ↔ ¬ (n = 16384 ∨ n = 32768) := by
  rw [← Option.not_isSome_iff_eq_none, prgSizeOf_isSome]
  simp

theorem bytes_of_prgSizeOf {n : Nat} {size : PrgSize} (h : prgSizeOf n = some size) : size.bytes = n := by
  unfold prgSizeOf at h
  split_ifs at h with h16 h32
  · cases h
    exact h16.symm
  · cases h
    exact h32.symm

theorem load_mapper {h : HostInputs} (hm : h.record.mapper ≠ 0) : load h = .error (.romFormat .mapper) := by
  rw [load, if_pos hm]

theorem load_prg {h : HostInputs} (hm : h.record.mapper = 0) (hp : prgSizeOf h.record.prg.length = none) :
    load h = .error (.romFormat .prg) := by
  rw [load, if_neg (not_not.2 hm), hp]

theorem load_chr {h : HostInputs} {size : PrgSize} (hm : h.record.mapper = 0)
    (hp : prgSizeOf h.record.prg.length = some size) (hc : h.record.chr.length ≠ 8192) :
    load h = .error (.romFormat .chr) := by
  rw [load, if_neg (not_not.2 hm), hp]
  exact if_pos hc

/-- The cartridge a record makes (rules R60, R461). -/
def loadedCart (r : CartridgeRecord) (size : PrgSize) : Cartridge where
  prg := Memory.ofBytes 0 r.prg
  prgSize := size
  chr := Memory.ofBytes 0 r.chr
  mirroring := r.mirroring

theorem load_ok {h : HostInputs} {size : PrgSize} (hm : h.record.mapper = 0)
    (hp : prgSizeOf h.record.prg.length = some size) (hc : h.record.chr.length = 8192) :
    load h = .ok (powerOn (loadedCart h.record size) h.params h.resetPc h.ram (hostPort h)) := by
  rw [load, if_neg (not_not.2 hm), hp]
  exact if_neg (not_not.2 hc)

/-- What a load answers, by the record's fields (rule R470). -/
theorem load_cases (h : HostInputs) :
    (h.record.mapper ≠ 0 ∧ load h = .error (.romFormat .mapper)) ∨
    (h.record.mapper = 0 ∧ ¬ (h.record.prg.length = 16384 ∨ h.record.prg.length = 32768) ∧
      load h = .error (.romFormat .prg)) ∨
    (h.record.mapper = 0 ∧ (h.record.prg.length = 16384 ∨ h.record.prg.length = 32768) ∧
      h.record.chr.length ≠ 8192 ∧ load h = .error (.romFormat .chr)) ∨
    (h.record.mapper = 0 ∧ (h.record.prg.length = 16384 ∨ h.record.prg.length = 32768) ∧
      h.record.chr.length = 8192 ∧ ∃ size, size.bytes = h.record.prg.length ∧
        load h = .ok (powerOn (loadedCart h.record size) h.params h.resetPc h.ram (hostPort h))) := by
  by_cases hm : h.record.mapper = 0
  · cases hp : prgSizeOf h.record.prg.length with
    | none => exact .inr (.inl ⟨hm, (prgSizeOf_eq_none_iff _).1 hp, load_prg hm hp⟩)
    | some size =>
      have hprg : h.record.prg.length = 16384 ∨ h.record.prg.length = 32768 := by
        by_contra hnot
        rw [(prgSizeOf_eq_none_iff _).2 hnot] at hp
        cases hp
      by_cases hc : h.record.chr.length = 8192
      · exact .inr (.inr (.inr ⟨hm, hprg, hc, size, bytes_of_prgSizeOf hp, load_ok hm hp hc⟩))
      · exact .inr (.inr (.inl ⟨hm, hprg, hc, load_chr hm hp hc⟩))
  · exact .inl ⟨hm, load_mapper hm⟩

/-- The stores of power-on are canonical where the record's lengths are accepted (rules R12, R60). -/
theorem powerOn_memoriesWf {r : CartridgeRecord} {size : PrgSize} (hsize : size.bytes = r.prg.length)
    (hchr : r.chr.length = 8192) (params : Params) (mode : ResetPcMode) (ram : RamPowerOn) (host : HostPort) :
    MemoriesWf (powerOn (loadedCart r size) params mode ram host) := by
  rw [powerOn_eq]
  refine ⟨Memory.wf_ofCells _ _, Memory.wf_ofCells _ _, Memory.wf_ofCells _ _, Memory.wf_ofCells _ _,
    Memory.wf_ofCells _ _, ?_, ?_⟩
  · exact Memory.wfFrom_ofBytes r.prg (by rw [Nat.zero_add]; exact hsize.ge)
  · exact Memory.wfFrom_ofBytes r.chr (by rw [Nat.zero_add]; exact hchr.le)

/-- The CPU-side bytes of a loaded program ROM (rules R80, R461). -/
theorem prgRead_loadedCart {r : CartridgeRecord} {size : PrgSize} (hsize : size.bytes = r.prg.length) (a : Nat) :
    some (prgRead (loadedCart r size) a) = r.prg[(a - 0x8000) % r.prg.length]? := by
  have hpos : 0 < size.bytes := by cases size <;> decide
  have hread : prgRead (loadedCart r size) a = (Memory.ofBytes 0 r.prg).read ((a - 0x8000) % size.bytes) := rfl
  rw [hread, ← hsize]
  exact read_ofBytes_eq_getElem? (hsize ▸ Nat.mod_lt _ hpos)

/-- Settles O59: the four answers of a load, power-on as its start after 21 dots, and reset as a power-on. -/
theorem loadAndPowerOn : Obligations.LoadAndPowerOn := by
  refine ⟨fun h => ?load, rfl, rfl, fun y x => ?frame, rfl, rfl, rfl, rfl⟩
  case load =>
    intro mapperOk prgOk chrOk
    have hwf : h.record.wellFormed = true ↔ mapperOk ∧ prgOk ∧ chrOk := by
      simp [CartridgeRecord.wellFormed, CartridgeRecord.mapperOk, CartridgeRecord.prgOk, CartridgeRecord.chrOk,
        mapperOk, prgOk, chrOk, and_assoc]
    have hcases := load_cases h
    refine ⟨?mapper, ?prg, ?chr, hwf, fun hm hp hc => ?loaded⟩
    case loaded =>
      obtain ⟨size, hsize, hload⟩ : ∃ size : PrgSize, size.bytes = h.record.prg.length ∧
          load h = .ok (powerOn (loadedCart h.record size) h.params h.resetPc h.ram (hostPort h)) := by
        rcases hcases with h' | h' | h' | h'
        · exact absurd hm h'.1
        · exact absurd hp h'.2.1
        · exact absurd hc h'.2.2.1
        · exact h'.2.2.2
      have hppu := powerOn_ppu (loadedCart h.record size) h.params h.resetPc h.ram (hostPort h)
      refine ⟨_, hload, powerOn_memoriesWf hsize hc _ _ _ _, ?_, ?_, frameGet_powerOn _ _ _ _ _, ?_⟩
      · rw [powerOn_eq]
        cases h.resetPc <;> rfl
      · exact powerOnPpu_fields hppu
      · rw [hppu, powerOn_eq]
        refine ⟨fun hram => ?_, fun image hram => ?_, rfl, rfl, rfl, rfl, rfl, fun a _ => prgRead_loadedCart hsize _,
          fun a ha => read_ofBytes_eq_getElem? (hc ▸ ha)⟩
        · rw [hram]
          exact ⟨rfl, rfl, rfl, rfl, rfl⟩
        · rw [hram]
          exact ⟨fun k hk => read_ofCells hk _, fun k hk => read_ofCells hk _, fun k hk => read_ofCells hk _,
            fun k hk => read_ofCells hk _, fun k hk => read_ofCells hk _⟩
    all_goals
      rcases hcases with ⟨hm, hload⟩ | ⟨hm, hp, hload⟩ | ⟨hm, hp, hc, hload⟩ | ⟨hm, hp, hc, size, -, hload⟩
      all_goals simp [mapperOk, prgOk, chrOk, *]
  case frame =>
    have hframe := frameGet_powerOn State.reset.cart defaultParams .vector .zero silentHost y x
    rw [← reset_eq_powerOn] at hframe
    exact hframe

end Sys2Proof.Machine
end
